-- ==== Sys2Proof/Word.lean ====
section
/-! DEFINITION. Word.lean: the word types of the machine (spec 00_scope R4, R5).
Bits are numbered from 0 at the least significant end (R5). -/

namespace Sys2Proof

/-- A byte of memory. -/
abbrev Byte := BitVec 8

/-- A halfword (R12). -/
abbrev Half := BitVec 16

/-- A word: 32 bits, the width of an instruction and of a physical address (R12, R80). -/
abbrev Word := BitVec 32

/-- A doubleword: 64 bits, the width of a general register and of a virtual address (R12, R20). -/
abbrev Dword := BitVec 64

end Sys2Proof
end

