-- ==== Sys2Proof/Syntax.lean ====
section
/-! DEFINITION. Syntax.lean: the instructions, one constructor for each row of spec/opcode_table.json.
Operands stand in assembler order (30_encoding R158); for loads and stores the base register and the
offset come after the register moved. A field the decoder ignores (the `z` positions, R147) is no operand. -/

namespace Sys2Proof

/-- A general register number (30_encoding R141). -/
abbrev Reg := BitVec 5

/-- A floating-point register number (30_encoding R141, R145). -/
abbrev FReg := BitVec 5

/-- A 16-bit immediate or offset field (30_encoding R141). -/
abbrev Imm16 := BitVec 16

/-- The instructions of spec/opcode_table.json, in the table's order. -/
inductive Instr where
  -- Integer arithmetic, logic and shifts (40_integer_alu)
  /-- `nop` (R209). -/
  | nop
  /-- `add rd, rs, rt` (R170). -/
  | add (rd rs rt : Reg)
  /-- `addu rd, rs, rt` (R171). -/
  | addu (rd rs rt : Reg)
  /-- `sub rd, rs, rt` (R172). -/
  | sub (rd rs rt : Reg)
  /-- `subu rd, rs, rt` (R173). -/
  | subu (rd rs rt : Reg)
  /-- `and rd, rs, rt` (R174). -/
  | and (rd rs rt : Reg)
  /-- `or rd, rs, rt` (R175). -/
  | or (rd rs rt : Reg)
  /-- `xor rd, rs, rt` (R176). -/
  | xor (rd rs rt : Reg)
  /-- `nor rd, rs, rt` (R177). -/
  | nor (rd rs rt : Reg)
  /-- `slt rd, rs, rt` (R178). -/
  | slt (rd rs rt : Reg)
  /-- `sltu rd, rs, rt` (R179). -/
  | sltu (rd rs rt : Reg)
  /-- `dadd rd, rs, rt` (R180). -/
  | dadd (rd rs rt : Reg)
  /-- `daddu rd, rs, rt` (R181). -/
  | daddu (rd rs rt : Reg)
  /-- `dsub rd, rs, rt` (R182). -/
  | dsub (rd rs rt : Reg)
  /-- `dsubu rd, rs, rt` (R183). -/
  | dsubu (rd rs rt : Reg)
  /-- `addi rt, rs, imm` (R184). -/
  | addi (rt rs : Reg) (imm : Imm16)
  /-- `addiu rt, rs, imm` (R185). -/
  | addiu (rt rs : Reg) (imm : Imm16)
  /-- `slti rt, rs, imm` (R186). -/
  | slti (rt rs : Reg) (imm : Imm16)
  /-- `sltiu rt, rs, imm` (R187). -/
  | sltiu (rt rs : Reg) (imm : Imm16)
  /-- `andi rt, rs, imm` (R188). -/
  | andi (rt rs : Reg) (imm : Imm16)
  /-- `ori rt, rs, imm` (R189). -/
  | ori (rt rs : Reg) (imm : Imm16)
  /-- `xori rt, rs, imm` (R190). -/
  | xori (rt rs : Reg) (imm : Imm16)
  /-- `lui rt, imm` (R191). -/
  | lui (rt : Reg) (imm : Imm16)
  /-- `daddi rt, rs, imm` (R192). -/
  | daddi (rt rs : Reg) (imm : Imm16)
  /-- `daddiu rt, rs, imm` (R193). -/
  | daddiu (rt rs : Reg) (imm : Imm16)
  /-- `sll rd, rt, sa` (R194). -/
  | sll (rd rt : Reg) (sa : BitVec 5)
  /-- `srl rd, rt, sa` (R195). -/
  | srl (rd rt : Reg) (sa : BitVec 5)
  /-- `sra rd, rt, sa` (R196). -/
  | sra (rd rt : Reg) (sa : BitVec 5)
  /-- `sllv rd, rt, rs` (R197). -/
  | sllv (rd rt rs : Reg)
  /-- `srlv rd, rt, rs` (R198). -/
  | srlv (rd rt rs : Reg)
  /-- `srav rd, rt, rs` (R199). -/
  | srav (rd rt rs : Reg)
  /-- `dsll rd, rt, sa` (R200). -/
  | dsll (rd rt : Reg) (sa : BitVec 5)
  /-- `dsrl rd, rt, sa` (R201). -/
  | dsrl (rd rt : Reg) (sa : BitVec 5)
  /-- `dsra rd, rt, sa` (R202). -/
  | dsra (rd rt : Reg) (sa : BitVec 5)
  /-- `dsllv rd, rt, rs` (R203). -/
  | dsllv (rd rt rs : Reg)
  /-- `dsrlv rd, rt, rs` (R204). -/
  | dsrlv (rd rt rs : Reg)
  /-- `dsrav rd, rt, rs` (R205). -/
  | dsrav (rd rt rs : Reg)
  /-- `dsll32 rd, rt, sa` (R206). -/
  | dsll32 (rd rt : Reg) (sa : BitVec 5)
  /-- `dsrl32 rd, rt, sa` (R207). -/
  | dsrl32 (rd rt : Reg) (sa : BitVec 5)
  /-- `dsra32 rd, rt, sa` (R208). -/
  | dsra32 (rd rt : Reg) (sa : BitVec 5)
  -- Multiply, divide, HI and LO (41_muldiv)
  /-- `mult rs, rt` (R230). -/
  | mult (rs rt : Reg)
  /-- `multu rs, rt` (R231). -/
  | multu (rs rt : Reg)
  /-- `div rs, rt` (R232). -/
  | div (rs rt : Reg)
  /-- `divu rs, rt` (R233). -/
  | divu (rs rt : Reg)
  /-- `dmult rs, rt` (R234). -/
  | dmult (rs rt : Reg)
  /-- `dmultu rs, rt` (R235). -/
  | dmultu (rs rt : Reg)
  /-- `ddiv rs, rt` (R236). -/
  | ddiv (rs rt : Reg)
  /-- `ddivu rs, rt` (R237). -/
  | ddivu (rs rt : Reg)
  /-- `mfhi rd` (R238). -/
  | mfhi (rd : Reg)
  /-- `mthi rs` (R239). -/
  | mthi (rs : Reg)
  /-- `mflo rd` (R240). -/
  | mflo (rd : Reg)
  /-- `mtlo rs` (R241). -/
  | mtlo (rs : Reg)
  -- Branches and jumps (42_branch_jump)
  /-- `j target` (R253). -/
  | j (idx : BitVec 26)
  /-- `jal target` (R254). -/
  | jal (idx : BitVec 26)
  /-- `jr rs` (R255). -/
  | jr (rs : Reg)
  /-- `jalr rd, rs` (R256). -/
  | jalr (rd rs : Reg)
  /-- `beq rs, rt, offset` (R257). -/
  | beq (rs rt : Reg) (imm : Imm16)
  /-- `bne rs, rt, offset` (R258). -/
  | bne (rs rt : Reg) (imm : Imm16)
  /-- `blez rs, offset` (R259). -/
  | blez (rs : Reg) (imm : Imm16)
  /-- `bgtz rs, offset` (R260). -/
  | bgtz (rs : Reg) (imm : Imm16)
  /-- `beql rs, rt, offset` (R261). -/
  | beql (rs rt : Reg) (imm : Imm16)
  /-- `bnel rs, rt, offset` (R262). -/
  | bnel (rs rt : Reg) (imm : Imm16)
  /-- `blezl rs, offset` (R263). -/
  | blezl (rs : Reg) (imm : Imm16)
  /-- `bgtzl rs, offset` (R264). -/
  | bgtzl (rs : Reg) (imm : Imm16)
  /-- `bltz rs, offset` (R265). -/
  | bltz (rs : Reg) (imm : Imm16)
  /-- `bgez rs, offset` (R266). -/
  | bgez (rs : Reg) (imm : Imm16)
  /-- `bltzl rs, offset` (R267). -/
  | bltzl (rs : Reg) (imm : Imm16)
  /-- `bgezl rs, offset` (R268). -/
  | bgezl (rs : Reg) (imm : Imm16)
  /-- `bltzal rs, offset` (R269). -/
  | bltzal (rs : Reg) (imm : Imm16)
  /-- `bgezal rs, offset` (R270). -/
  | bgezal (rs : Reg) (imm : Imm16)
  /-- `bltzall rs, offset` (R271). -/
  | bltzall (rs : Reg) (imm : Imm16)
  /-- `bgezall rs, offset` (R272). -/
  | bgezall (rs : Reg) (imm : Imm16)
  -- Loads and stores (43_load_store)
  /-- `lb rt, offset(base)` (R291). -/
  | lb (rt base : Reg) (imm : Imm16)
  /-- `lbu rt, offset(base)` (R292). -/
  | lbu (rt base : Reg) (imm : Imm16)
  /-- `lh rt, offset(base)` (R293). -/
  | lh (rt base : Reg) (imm : Imm16)
  /-- `lhu rt, offset(base)` (R294). -/
  | lhu (rt base : Reg) (imm : Imm16)
  /-- `lw rt, offset(base)` (R295). -/
  | lw (rt base : Reg) (imm : Imm16)
  /-- `lwu rt, offset(base)` (R296). -/
  | lwu (rt base : Reg) (imm : Imm16)
  /-- `ld rt, offset(base)` (R297). -/
  | ld (rt base : Reg) (imm : Imm16)
  /-- `lwl rt, offset(base)` (R298). -/
  | lwl (rt base : Reg) (imm : Imm16)
  /-- `lwr rt, offset(base)` (R299). -/
  | lwr (rt base : Reg) (imm : Imm16)
  /-- `ldl rt, offset(base)` (R300). -/
  | ldl (rt base : Reg) (imm : Imm16)
  /-- `ldr rt, offset(base)` (R301). -/
  | ldr (rt base : Reg) (imm : Imm16)
  /-- `sb rt, offset(base)` (R302). -/
  | sb (rt base : Reg) (imm : Imm16)
  /-- `sh rt, offset(base)` (R303). -/
  | sh (rt base : Reg) (imm : Imm16)
  /-- `sw rt, offset(base)` (R304). -/
  | sw (rt base : Reg) (imm : Imm16)
  /-- `sd rt, offset(base)` (R305). -/
  | sd (rt base : Reg) (imm : Imm16)
  /-- `swl rt, offset(base)` (R306). -/
  | swl (rt base : Reg) (imm : Imm16)
  /-- `swr rt, offset(base)` (R307). -/
  | swr (rt base : Reg) (imm : Imm16)
  /-- `sdl rt, offset(base)` (R308). -/
  | sdl (rt base : Reg) (imm : Imm16)
  /-- `sdr rt, offset(base)` (R309). -/
  | sdr (rt base : Reg) (imm : Imm16)
  /-- `ll rt, offset(base)` (R310). -/
  | ll (rt base : Reg) (imm : Imm16)
  /-- `lld rt, offset(base)` (R311). -/
  | lld (rt base : Reg) (imm : Imm16)
  /-- `sc rt, offset(base)` (R312). -/
  | sc (rt base : Reg) (imm : Imm16)
  /-- `scd rt, offset(base)` (R313). -/
  | scd (rt base : Reg) (imm : Imm16)
  /-- `lwc1 ft, offset(base)` (R314). -/
  | lwc1 (ft : FReg) (base : Reg) (imm : Imm16)
  /-- `ldc1 ft, offset(base)` (R315). -/
  | ldc1 (ft : FReg) (base : Reg) (imm : Imm16)
  /-- `swc1 ft, offset(base)` (R316). -/
  | swc1 (ft : FReg) (base : Reg) (imm : Imm16)
  /-- `sdc1 ft, offset(base)` (R317). -/
  | sdc1 (ft : FReg) (base : Reg) (imm : Imm16)
  -- System calls, traps, barriers, COP2 (44_trap_system)
  /-- `syscall code` (R340). -/
  | syscall (code : BitVec 20)
  /-- `break code` (R341). -/
  | break_ (code : BitVec 20)
  /-- `sync` (R342). -/
  | sync
  /-- `cache op, offset(base)` (R343). -/
  | cache (op : BitVec 5) (base : Reg) (imm : Imm16)
  /-- `tge rs, rt` (R344). -/
  | tge (rs rt : Reg) (code : BitVec 10)
  /-- `tgeu rs, rt` (R345). -/
  | tgeu (rs rt : Reg) (code : BitVec 10)
  /-- `tlt rs, rt` (R346). -/
  | tlt (rs rt : Reg) (code : BitVec 10)
  /-- `tltu rs, rt` (R347). -/
  | tltu (rs rt : Reg) (code : BitVec 10)
  /-- `teq rs, rt` (R348). -/
  | teq (rs rt : Reg) (code : BitVec 10)
  /-- `tne rs, rt` (R349). -/
  | tne (rs rt : Reg) (code : BitVec 10)
  /-- `tgei rs, imm` (R350). -/
  | tgei (rs : Reg) (imm : Imm16)
  /-- `tgeiu rs, imm` (R351). -/
  | tgeiu (rs : Reg) (imm : Imm16)
  /-- `tlti rs, imm` (R352). -/
  | tlti (rs : Reg) (imm : Imm16)
  /-- `tltiu rs, imm` (R353). -/
  | tltiu (rs : Reg) (imm : Imm16)
  /-- `teqi rs, imm` (R354). -/
  | teqi (rs : Reg) (imm : Imm16)
  /-- `tnei rs, imm` (R355). -/
  | tnei (rs : Reg) (imm : Imm16)
  /-- `(whole primary opcode 0x12)` (R356). -/
  | cop2 (code : BitVec 26)
  -- Coprocessor 0 (45_cp0)
  /-- `mfc0 rt, rd` (R371). -/
  | mfc0 (rt rd : Reg)
  /-- `dmfc0 rt, rd` (R372). -/
  | dmfc0 (rt rd : Reg)
  /-- `mtc0 rt, rd` (R373). -/
  | mtc0 (rt rd : Reg)
  /-- `dmtc0 rt, rd` (R374). -/
  | dmtc0 (rt rd : Reg)
  /-- `tlbr` (R376). -/
  | tlbr
  /-- `tlbwi` (R377). -/
  | tlbwi
  /-- `tlbwr` (R378). -/
  | tlbwr
  /-- `tlbp` (R379). -/
  | tlbp
  /-- `eret` (R380). -/
  | eret
  -- FPU moves, control registers and branches (46_fpu_move)
  /-- `mfc1 rt, fs` (R402). -/
  | mfc1 (rt : Reg) (fs : FReg)
  /-- `dmfc1 rt, fs` (R403). -/
  | dmfc1 (rt : Reg) (fs : FReg)
  /-- `cfc1 rt, fs` (R404). -/
  | cfc1 (rt : Reg) (fs : FReg)
  /-- `mtc1 rt, fs` (R405). -/
  | mtc1 (rt : Reg) (fs : FReg)
  /-- `dmtc1 rt, fs` (R406). -/
  | dmtc1 (rt : Reg) (fs : FReg)
  /-- `ctc1 rt, fs` (R407). -/
  | ctc1 (rt : Reg) (fs : FReg)
  /-- `bc1f offset` (R408). -/
  | bc1f (imm : Imm16)
  /-- `bc1t offset` (R409). -/
  | bc1t (imm : Imm16)
  /-- `bc1fl offset` (R410). -/
  | bc1fl (imm : Imm16)
  /-- `bc1tl offset` (R411). -/
  | bc1tl (imm : Imm16)
  -- FPU arithmetic, conversion and compare (47_fpu_arith)
  /-- `add.s fd, fs, ft` (R436). -/
  | addS (fd fs ft : FReg)
  /-- `add.d fd, fs, ft` (R436). -/
  | addD (fd fs ft : FReg)
  /-- `sub.s fd, fs, ft` (R437). -/
  | subS (fd fs ft : FReg)
  /-- `sub.d fd, fs, ft` (R437). -/
  | subD (fd fs ft : FReg)
  /-- `mul.s fd, fs, ft` (R438). -/
  | mulS (fd fs ft : FReg)
  /-- `mul.d fd, fs, ft` (R438). -/
  | mulD (fd fs ft : FReg)
  /-- `div.s fd, fs, ft` (R439). -/
  | divS (fd fs ft : FReg)
  /-- `div.d fd, fs, ft` (R439). -/
  | divD (fd fs ft : FReg)
  /-- `sqrt.s fd, fs` (R440). -/
  | sqrtS (fd fs : FReg)
  /-- `sqrt.d fd, fs` (R440). -/
  | sqrtD (fd fs : FReg)
  /-- `abs.s fd, fs` (R441). -/
  | absS (fd fs : FReg)
  /-- `abs.d fd, fs` (R441). -/
  | absD (fd fs : FReg)
  /-- `mov.s fd, fs` (R442). -/
  | movS (fd fs : FReg)
  /-- `mov.d fd, fs` (R442). -/
  | movD (fd fs : FReg)
  /-- `neg.s fd, fs` (R443). -/
  | negS (fd fs : FReg)
  /-- `neg.d fd, fs` (R443). -/
  | negD (fd fs : FReg)
  /-- `round.l.s fd, fs` (R444). -/
  | roundLS (fd fs : FReg)
  /-- `round.l.d fd, fs` (R444). -/
  | roundLD (fd fs : FReg)
  /-- `trunc.l.s fd, fs` (R445). -/
  | truncLS (fd fs : FReg)
  /-- `trunc.l.d fd, fs` (R445). -/
  | truncLD (fd fs : FReg)
  /-- `ceil.l.s fd, fs` (R446). -/
  | ceilLS (fd fs : FReg)
  /-- `ceil.l.d fd, fs` (R446). -/
  | ceilLD (fd fs : FReg)
  /-- `floor.l.s fd, fs` (R447). -/
  | floorLS (fd fs : FReg)
  /-- `floor.l.d fd, fs` (R447). -/
  | floorLD (fd fs : FReg)
  /-- `round.w.s fd, fs` (R448). -/
  | roundWS (fd fs : FReg)
  /-- `round.w.d fd, fs` (R448). -/
  | roundWD (fd fs : FReg)
  /-- `trunc.w.s fd, fs` (R449). -/
  | truncWS (fd fs : FReg)
  /-- `trunc.w.d fd, fs` (R449). -/
  | truncWD (fd fs : FReg)
  /-- `ceil.w.s fd, fs` (R450). -/
  | ceilWS (fd fs : FReg)
  /-- `ceil.w.d fd, fs` (R450). -/
  | ceilWD (fd fs : FReg)
  /-- `floor.w.s fd, fs` (R451). -/
  | floorWS (fd fs : FReg)
  /-- `floor.w.d fd, fs` (R451). -/
  | floorWD (fd fs : FReg)
  /-- `cvt.s.d fd, fs` (R452). -/
  | cvtSD (fd fs : FReg)
  /-- `cvt.s.w fd, fs` (R452). -/
  | cvtSW (fd fs : FReg)
  /-- `cvt.s.l fd, fs` (R452). -/
  | cvtSL (fd fs : FReg)
  /-- `cvt.d.s fd, fs` (R453). -/
  | cvtDS (fd fs : FReg)
  /-- `cvt.d.w fd, fs` (R453). -/
  | cvtDW (fd fs : FReg)
  /-- `cvt.d.l fd, fs` (R453). -/
  | cvtDL (fd fs : FReg)
  /-- `cvt.w.s fd, fs` (R454). -/
  | cvtWS (fd fs : FReg)
  /-- `cvt.w.d fd, fs` (R454). -/
  | cvtWD (fd fs : FReg)
  /-- `cvt.l.s fd, fs` (R455). -/
  | cvtLS (fd fs : FReg)
  /-- `cvt.l.d fd, fs` (R455). -/
  | cvtLD (fd fs : FReg)
  /-- `c.f.s fs, ft` (R457). -/
  | cFS (fs ft : FReg)
  /-- `c.f.d fs, ft` (R457). -/
  | cFD (fs ft : FReg)
  /-- `c.un.s fs, ft` (R458). -/
  | cUnS (fs ft : FReg)
  /-- `c.un.d fs, ft` (R458). -/
  | cUnD (fs ft : FReg)
  /-- `c.eq.s fs, ft` (R459). -/
  | cEqS (fs ft : FReg)
  /-- `c.eq.d fs, ft` (R459). -/
  | cEqD (fs ft : FReg)
  /-- `c.ueq.s fs, ft` (R460). -/
  | cUeqS (fs ft : FReg)
  /-- `c.ueq.d fs, ft` (R460). -/
  | cUeqD (fs ft : FReg)
  /-- `c.olt.s fs, ft` (R461). -/
  | cOltS (fs ft : FReg)
  /-- `c.olt.d fs, ft` (R461). -/
  | cOltD (fs ft : FReg)
  /-- `c.ult.s fs, ft` (R462). -/
  | cUltS (fs ft : FReg)
  /-- `c.ult.d fs, ft` (R462). -/
  | cUltD (fs ft : FReg)
  /-- `c.ole.s fs, ft` (R463). -/
  | cOleS (fs ft : FReg)
  /-- `c.ole.d fs, ft` (R463). -/
  | cOleD (fs ft : FReg)
  /-- `c.ule.s fs, ft` (R464). -/
  | cUleS (fs ft : FReg)
  /-- `c.ule.d fs, ft` (R464). -/
  | cUleD (fs ft : FReg)
  /-- `c.sf.s fs, ft` (R465). -/
  | cSfS (fs ft : FReg)
  /-- `c.sf.d fs, ft` (R465). -/
  | cSfD (fs ft : FReg)
  /-- `c.ngle.s fs, ft` (R466). -/
  | cNgleS (fs ft : FReg)
  /-- `c.ngle.d fs, ft` (R466). -/
  | cNgleD (fs ft : FReg)
  /-- `c.seq.s fs, ft` (R467). -/
  | cSeqS (fs ft : FReg)
  /-- `c.seq.d fs, ft` (R467). -/
  | cSeqD (fs ft : FReg)
  /-- `c.ngl.s fs, ft` (R468). -/
  | cNglS (fs ft : FReg)
  /-- `c.ngl.d fs, ft` (R468). -/
  | cNglD (fs ft : FReg)
  /-- `c.lt.s fs, ft` (R469). -/
  | cLtS (fs ft : FReg)
  /-- `c.lt.d fs, ft` (R469). -/
  | cLtD (fs ft : FReg)
  /-- `c.nge.s fs, ft` (R470). -/
  | cNgeS (fs ft : FReg)
  /-- `c.nge.d fs, ft` (R470). -/
  | cNgeD (fs ft : FReg)
  /-- `c.le.s fs, ft` (R471). -/
  | cLeS (fs ft : FReg)
  /-- `c.le.d fs, ft` (R471). -/
  | cLeD (fs ft : FReg)
  /-- `c.ngt.s fs, ft` (R472). -/
  | cNgtS (fs ft : FReg)
  /-- `c.ngt.d fs, ft` (R472). -/
  | cNgtD (fs ft : FReg)
  deriving DecidableEq, Repr

end Sys2Proof
end

