-- ==== Sys2Proof/WellFormed.lean ====
section
/-! DEFINITION. WellFormed.lean: which terms of Instr stand for a word.
The operand types have exactly the widths of the fields of 30_encoding R141, so every operand value is
encodable. One term has no word of its own: SLL r0, r0, 0 would be the word 0x00000000, which is NOP and
"decodes without touching the opcode tables" (R148). -/

namespace Sys2Proof

/-- Is the instruction the one its own word decodes to? -/
def Instr.wellFormed : Instr → Bool
  | .sll rd rt sa => !(rd == 0#5 && rt == 0#5 && sa == 0#5)
  | _ => true

end Sys2Proof
end

