-- ==== Sys2Proof/Decode.lean ====
section
/-! DEFINITION. Decode.lean: the fields of an instruction word, the decoder, the encoder.
The decoder follows the resolution order of 30_encoding R147 (primary opcode, then the function code of
SPECIAL, the rt field of REGIMM, the rs field of COPz falling through to a function field) and the maps of
R149 to R153. It is a pure function of the word; every other word is rejected by name (R155), and the step
turns the rejection into the reserved-instruction exception (44_trap_system R357). -/

namespace Sys2Proof

/-! ### The fields of an instruction word (30_encoding R141) -/

/-- `op`, bits 31:26. -/
def fOp (w : Word) : BitVec 6 := w.extractLsb' 26 6
/-- `rs`, bits 25:21 (`base` of loads and stores, `fmt` of COP1, the sub-opcode of COPz). -/
def fRs (w : Word) : BitVec 5 := w.extractLsb' 21 5
/-- `rt`, bits 20:16 (`ft`, the sub-opcode of REGIMM and of the FP branches). -/
def fRt (w : Word) : BitVec 5 := w.extractLsb' 16 5
/-- `rd`, bits 15:11 (`fs`, the CP0 register number). -/
def fRd (w : Word) : BitVec 5 := w.extractLsb' 11 5
/-- `sa`, bits 10:6 (`fd`). -/
def fSa (w : Word) : BitVec 5 := w.extractLsb' 6 5
/-- `funct`, bits 5:0. -/
def fFunct (w : Word) : BitVec 6 := w.extractLsb' 0 6
/-- `imm16`, bits 15:0. -/
def fImm (w : Word) : BitVec 16 := w.extractLsb' 0 16
/-- `instr_index`, bits 25:0 (the `code` of a COP2 word too). -/
def fIndex (w : Word) : BitVec 26 := w.extractLsb' 0 26
/-- `code` of SYSCALL and BREAK, bits 25:6. -/
def fCode20 (w : Word) : BitVec 20 := w.extractLsb' 6 20
/-- `code` of the register traps, bits 15:6. -/
def fCode10 (w : Word) : BitVec 10 := w.extractLsb' 6 10
/-- `CO`, bit 25: in COP0 it selects the function-code group. -/
def fCO (w : Word) : BitVec 1 := w.extractLsb' 25 1

/-- Why a word (or a list of bytes) is no instruction: the map of 30_encoding that has `*` at its place. -/
inductive DecodeError where
  /-- a reserved primary opcode (R149) -/
  | opcode (op : BitVec 6)
  /-- a reserved SPECIAL function code (R150) -/
  | special (funct : BitVec 6)
  /-- a reserved REGIMM rt value (R151) -/
  | regimm (rt : BitVec 5)
  /-- a reserved COP0 sub-opcode or function code (R152) -/
  | cop0 (rs : BitVec 5) (funct : BitVec 6)
  /-- a reserved COP1 sub-opcode, branch or format and function combination (R153, 47_fpu_arith R474) -/
  | cop1 (rs rt : BitVec 5) (funct : BitVec 6)
  /-- not the four bytes of one word (R140) -/
  | notOneWord
  deriving DecidableEq, Repr

/-! ### The decoder -/

/-- SPECIAL, selected by `funct` (R150). -/
def decodeSpecial (w : Word) : Except DecodeError Instr :=
  match fFunct w with
  | 0x00#6 => .ok (.sll (fRd w) (fRt w) (fSa w))
  | 0x02#6 => .ok (.srl (fRd w) (fRt w) (fSa w))
  | 0x03#6 => .ok (.sra (fRd w) (fRt w) (fSa w))
  | 0x04#6 => .ok (.sllv (fRd w) (fRt w) (fRs w))
  | 0x06#6 => .ok (.srlv (fRd w) (fRt w) (fRs w))
  | 0x07#6 => .ok (.srav (fRd w) (fRt w) (fRs w))
  | 0x08#6 => .ok (.jr (fRs w))
  | 0x09#6 => .ok (.jalr (fRd w) (fRs w))
  | 0x0C#6 => .ok (.syscall (fCode20 w))
  | 0x0D#6 => .ok (.break_ (fCode20 w))
  | 0x0F#6 => .ok .sync
  | 0x10#6 => .ok (.mfhi (fRd w))
  | 0x11#6 => .ok (.mthi (fRs w))
  | 0x12#6 => .ok (.mflo (fRd w))
  | 0x13#6 => .ok (.mtlo (fRs w))
  | 0x14#6 => .ok (.dsllv (fRd w) (fRt w) (fRs w))
  | 0x16#6 => .ok (.dsrlv (fRd w) (fRt w) (fRs w))
  | 0x17#6 => .ok (.dsrav (fRd w) (fRt w) (fRs w))
  | 0x18#6 => .ok (.mult (fRs w) (fRt w))
  | 0x19#6 => .ok (.multu (fRs w) (fRt w))
  | 0x1A#6 => .ok (.div (fRs w) (fRt w))
  | 0x1B#6 => .ok (.divu (fRs w) (fRt w))
  | 0x1C#6 => .ok (.dmult (fRs w) (fRt w))
  | 0x1D#6 => .ok (.dmultu (fRs w) (fRt w))
  | 0x1E#6 => .ok (.ddiv (fRs w) (fRt w))
  | 0x1F#6 => .ok (.ddivu (fRs w) (fRt w))
  | 0x20#6 => .ok (.add (fRd w) (fRs w) (fRt w))
  | 0x21#6 => .ok (.addu (fRd w) (fRs w) (fRt w))
  | 0x22#6 => .ok (.sub (fRd w) (fRs w) (fRt w))
  | 0x23#6 => .ok (.subu (fRd w) (fRs w) (fRt w))
  | 0x24#6 => .ok (.and (fRd w) (fRs w) (fRt w))
  | 0x25#6 => .ok (.or (fRd w) (fRs w) (fRt w))
  | 0x26#6 => .ok (.xor (fRd w) (fRs w) (fRt w))
  | 0x27#6 => .ok (.nor (fRd w) (fRs w) (fRt w))
  | 0x2A#6 => .ok (.slt (fRd w) (fRs w) (fRt w))
  | 0x2B#6 => .ok (.sltu (fRd w) (fRs w) (fRt w))
  | 0x2C#6 => .ok (.dadd (fRd w) (fRs w) (fRt w))
  | 0x2D#6 => .ok (.daddu (fRd w) (fRs w) (fRt w))
  | 0x2E#6 => .ok (.dsub (fRd w) (fRs w) (fRt w))
  | 0x2F#6 => .ok (.dsubu (fRd w) (fRs w) (fRt w))
  | 0x30#6 => .ok (.tge (fRs w) (fRt w) (fCode10 w))
  | 0x31#6 => .ok (.tgeu (fRs w) (fRt w) (fCode10 w))
  | 0x32#6 => .ok (.tlt (fRs w) (fRt w) (fCode10 w))
  | 0x33#6 => .ok (.tltu (fRs w) (fRt w) (fCode10 w))
  | 0x34#6 => .ok (.teq (fRs w) (fRt w) (fCode10 w))
  | 0x36#6 => .ok (.tne (fRs w) (fRt w) (fCode10 w))
  | 0x38#6 => .ok (.dsll (fRd w) (fRt w) (fSa w))
  | 0x3A#6 => .ok (.dsrl (fRd w) (fRt w) (fSa w))
  | 0x3B#6 => .ok (.dsra (fRd w) (fRt w) (fSa w))
  | 0x3C#6 => .ok (.dsll32 (fRd w) (fRt w) (fSa w))
  | 0x3E#6 => .ok (.dsrl32 (fRd w) (fRt w) (fSa w))
  | 0x3F#6 => .ok (.dsra32 (fRd w) (fRt w) (fSa w))
  | f => .error (.special f)

/-- REGIMM, selected by `rt` (R151). -/
def decodeRegimm (w : Word) : Except DecodeError Instr :=
  match fRt w with
  | 0x00#5 => .ok (.bltz (fRs w) (fImm w))
  | 0x01#5 => .ok (.bgez (fRs w) (fImm w))
  | 0x02#5 => .ok (.bltzl (fRs w) (fImm w))
  | 0x03#5 => .ok (.bgezl (fRs w) (fImm w))
  | 0x08#5 => .ok (.tgei (fRs w) (fImm w))
  | 0x09#5 => .ok (.tgeiu (fRs w) (fImm w))
  | 0x0A#5 => .ok (.tlti (fRs w) (fImm w))
  | 0x0B#5 => .ok (.tltiu (fRs w) (fImm w))
  | 0x0C#5 => .ok (.teqi (fRs w) (fImm w))
  | 0x0E#5 => .ok (.tnei (fRs w) (fImm w))
  | 0x10#5 => .ok (.bltzal (fRs w) (fImm w))
  | 0x11#5 => .ok (.bgezal (fRs w) (fImm w))
  | 0x12#5 => .ok (.bltzall (fRs w) (fImm w))
  | 0x13#5 => .ok (.bgezall (fRs w) (fImm w))
  | t => .error (.regimm t)

/-- COP0 with CO = 1, selected by `funct` (R152). -/
def decodeCop0Function (w : Word) : Except DecodeError Instr :=
  match fFunct w with
  | 0x01#6 => .ok .tlbr
  | 0x02#6 => .ok .tlbwi
  | 0x06#6 => .ok .tlbwr
  | 0x08#6 => .ok .tlbp
  | 0x18#6 => .ok .eret
  | f => .error (.cop0 (fRs w) f)

/-- COP0 with CO = 0, selected by `rs` (R152). -/
def decodeCop0Move (w : Word) : Except DecodeError Instr :=
  match fRs w with
  | 0x00#5 => .ok (.mfc0 (fRt w) (fRd w))
  | 0x01#5 => .ok (.dmfc0 (fRt w) (fRd w))
  | 0x04#5 => .ok (.mtc0 (fRt w) (fRd w))
  | 0x05#5 => .ok (.dmtc0 (fRt w) (fRd w))
  | s => .error (.cop0 s (fFunct w))

/-- COP0 (R152). -/
def decodeCop0 (w : Word) : Except DecodeError Instr :=
  if fCO w = 1#1 then decodeCop0Function w else decodeCop0Move w

/-- COP1, the FP branches, selected by `rt` (R153). -/
def decodeBc1 (w : Word) : Except DecodeError Instr :=
  match fRt w with
  | 0x00#5 => .ok (.bc1f (fImm w))
  | 0x01#5 => .ok (.bc1t (fImm w))
  | 0x02#5 => .ok (.bc1fl (fImm w))
  | 0x03#5 => .ok (.bc1tl (fImm w))
  | t => .error (.cop1 (fRs w) t (fFunct w))

/-- COP1 with fmt S (single), selected by `funct` (R153). -/
def decodeFmtS (w : Word) : Except DecodeError Instr :=
  match fFunct w with
  | 0x00#6 => .ok (.addS (fSa w) (fRd w) (fRt w))
  | 0x01#6 => .ok (.subS (fSa w) (fRd w) (fRt w))
  | 0x02#6 => .ok (.mulS (fSa w) (fRd w) (fRt w))
  | 0x03#6 => .ok (.divS (fSa w) (fRd w) (fRt w))
  | 0x04#6 => .ok (.sqrtS (fSa w) (fRd w))
  | 0x05#6 => .ok (.absS (fSa w) (fRd w))
  | 0x06#6 => .ok (.movS (fSa w) (fRd w))
  | 0x07#6 => .ok (.negS (fSa w) (fRd w))
  | 0x08#6 => .ok (.roundLS (fSa w) (fRd w))
  | 0x09#6 => .ok (.truncLS (fSa w) (fRd w))
  | 0x0A#6 => .ok (.ceilLS (fSa w) (fRd w))
  | 0x0B#6 => .ok (.floorLS (fSa w) (fRd w))
  | 0x0C#6 => .ok (.roundWS (fSa w) (fRd w))
  | 0x0D#6 => .ok (.truncWS (fSa w) (fRd w))
  | 0x0E#6 => .ok (.ceilWS (fSa w) (fRd w))
  | 0x0F#6 => .ok (.floorWS (fSa w) (fRd w))
  | 0x21#6 => .ok (.cvtDS (fSa w) (fRd w))
  | 0x24#6 => .ok (.cvtWS (fSa w) (fRd w))
  | 0x25#6 => .ok (.cvtLS (fSa w) (fRd w))
  | 0x30#6 => .ok (.cFS (fRd w) (fRt w))
  | 0x31#6 => .ok (.cUnS (fRd w) (fRt w))
  | 0x32#6 => .ok (.cEqS (fRd w) (fRt w))
  | 0x33#6 => .ok (.cUeqS (fRd w) (fRt w))
  | 0x34#6 => .ok (.cOltS (fRd w) (fRt w))
  | 0x35#6 => .ok (.cUltS (fRd w) (fRt w))
  | 0x36#6 => .ok (.cOleS (fRd w) (fRt w))
  | 0x37#6 => .ok (.cUleS (fRd w) (fRt w))
  | 0x38#6 => .ok (.cSfS (fRd w) (fRt w))
  | 0x39#6 => .ok (.cNgleS (fRd w) (fRt w))
  | 0x3A#6 => .ok (.cSeqS (fRd w) (fRt w))
  | 0x3B#6 => .ok (.cNglS (fRd w) (fRt w))
  | 0x3C#6 => .ok (.cLtS (fRd w) (fRt w))
  | 0x3D#6 => .ok (.cNgeS (fRd w) (fRt w))
  | 0x3E#6 => .ok (.cLeS (fRd w) (fRt w))
  | 0x3F#6 => .ok (.cNgtS (fRd w) (fRt w))
  | f => .error (.cop1 (fRs w) (fRt w) f)

/-- COP1 with fmt D (double), selected by `funct` (R153). -/
def decodeFmtD (w : Word) : Except DecodeError Instr :=
  match fFunct w with
  | 0x00#6 => .ok (.addD (fSa w) (fRd w) (fRt w))
  | 0x01#6 => .ok (.subD (fSa w) (fRd w) (fRt w))
  | 0x02#6 => .ok (.mulD (fSa w) (fRd w) (fRt w))
  | 0x03#6 => .ok (.divD (fSa w) (fRd w) (fRt w))
  | 0x04#6 => .ok (.sqrtD (fSa w) (fRd w))
  | 0x05#6 => .ok (.absD (fSa w) (fRd w))
  | 0x06#6 => .ok (.movD (fSa w) (fRd w))
  | 0x07#6 => .ok (.negD (fSa w) (fRd w))
  | 0x08#6 => .ok (.roundLD (fSa w) (fRd w))
  | 0x09#6 => .ok (.truncLD (fSa w) (fRd w))
  | 0x0A#6 => .ok (.ceilLD (fSa w) (fRd w))
  | 0x0B#6 => .ok (.floorLD (fSa w) (fRd w))
  | 0x0C#6 => .ok (.roundWD (fSa w) (fRd w))
  | 0x0D#6 => .ok (.truncWD (fSa w) (fRd w))
  | 0x0E#6 => .ok (.ceilWD (fSa w) (fRd w))
  | 0x0F#6 => .ok (.floorWD (fSa w) (fRd w))
  | 0x20#6 => .ok (.cvtSD (fSa w) (fRd w))
  | 0x24#6 => .ok (.cvtWD (fSa w) (fRd w))
  | 0x25#6 => .ok (.cvtLD (fSa w) (fRd w))
  | 0x30#6 => .ok (.cFD (fRd w) (fRt w))
  | 0x31#6 => .ok (.cUnD (fRd w) (fRt w))
  | 0x32#6 => .ok (.cEqD (fRd w) (fRt w))
  | 0x33#6 => .ok (.cUeqD (fRd w) (fRt w))
  | 0x34#6 => .ok (.cOltD (fRd w) (fRt w))
  | 0x35#6 => .ok (.cUltD (fRd w) (fRt w))
  | 0x36#6 => .ok (.cOleD (fRd w) (fRt w))
  | 0x37#6 => .ok (.cUleD (fRd w) (fRt w))
  | 0x38#6 => .ok (.cSfD (fRd w) (fRt w))
  | 0x39#6 => .ok (.cNgleD (fRd w) (fRt w))
  | 0x3A#6 => .ok (.cSeqD (fRd w) (fRt w))
  | 0x3B#6 => .ok (.cNglD (fRd w) (fRt w))
  | 0x3C#6 => .ok (.cLtD (fRd w) (fRt w))
  | 0x3D#6 => .ok (.cNgeD (fRd w) (fRt w))
  | 0x3E#6 => .ok (.cLeD (fRd w) (fRt w))
  | 0x3F#6 => .ok (.cNgtD (fRd w) (fRt w))
  | f => .error (.cop1 (fRs w) (fRt w) f)

/-- COP1 with fmt W (32-bit fixed), selected by `funct` (R153). -/
def decodeFmtW (w : Word) : Except DecodeError Instr :=
  match fFunct w with
  | 0x20#6 => .ok (.cvtSW (fSa w) (fRd w))
  | 0x21#6 => .ok (.cvtDW (fSa w) (fRd w))
  | f => .error (.cop1 (fRs w) (fRt w) f)

/-- COP1 with fmt L (64-bit fixed), selected by `funct` (R153). -/
def decodeFmtL (w : Word) : Except DecodeError Instr :=
  match fFunct w with
  | 0x20#6 => .ok (.cvtSL (fSa w) (fRd w))
  | 0x21#6 => .ok (.cvtDL (fSa w) (fRd w))
  | f => .error (.cop1 (fRs w) (fRt w) f)

/-- COP1, selected by `rs` (R153). -/
def decodeCop1 (w : Word) : Except DecodeError Instr :=
  match fRs w with
  | 0x00#5 => .ok (.mfc1 (fRt w) (fRd w))
  | 0x01#5 => .ok (.dmfc1 (fRt w) (fRd w))
  | 0x02#5 => .ok (.cfc1 (fRt w) (fRd w))
  | 0x04#5 => .ok (.mtc1 (fRt w) (fRd w))
  | 0x05#5 => .ok (.dmtc1 (fRt w) (fRd w))
  | 0x06#5 => .ok (.ctc1 (fRt w) (fRd w))
  | 0x08#5 => decodeBc1 w
  | 0x10#5 => decodeFmtS w
  | 0x11#5 => decodeFmtD w
  | 0x14#5 => decodeFmtW w
  | 0x15#5 => decodeFmtL w
  | s => .error (.cop1 s (fRt w) (fFunct w))

/-- The primary opcode map (R149), for a word that is not the NOP word. -/
def decodeOpcode (w : Word) : Except DecodeError Instr :=
  match fOp w with
  | 0x00#6 => decodeSpecial w
  | 0x01#6 => decodeRegimm w
  | 0x02#6 => .ok (.j (fIndex w))
  | 0x03#6 => .ok (.jal (fIndex w))
  | 0x04#6 => .ok (.beq (fRs w) (fRt w) (fImm w))
  | 0x05#6 => .ok (.bne (fRs w) (fRt w) (fImm w))
  | 0x06#6 => .ok (.blez (fRs w) (fImm w))
  | 0x07#6 => .ok (.bgtz (fRs w) (fImm w))
  | 0x08#6 => .ok (.addi (fRt w) (fRs w) (fImm w))
  | 0x09#6 => .ok (.addiu (fRt w) (fRs w) (fImm w))
  | 0x0A#6 => .ok (.slti (fRt w) (fRs w) (fImm w))
  | 0x0B#6 => .ok (.sltiu (fRt w) (fRs w) (fImm w))
  | 0x0C#6 => .ok (.andi (fRt w) (fRs w) (fImm w))
  | 0x0D#6 => .ok (.ori (fRt w) (fRs w) (fImm w))
  | 0x0E#6 => .ok (.xori (fRt w) (fRs w) (fImm w))
  | 0x0F#6 => .ok (.lui (fRt w) (fImm w))
  | 0x10#6 => decodeCop0 w
  | 0x11#6 => decodeCop1 w
  | 0x12#6 => .ok (.cop2 (fIndex w))
  | 0x14#6 => .ok (.beql (fRs w) (fRt w) (fImm w))
  | 0x15#6 => .ok (.bnel (fRs w) (fRt w) (fImm w))
  | 0x16#6 => .ok (.blezl (fRs w) (fImm w))
  | 0x17#6 => .ok (.bgtzl (fRs w) (fImm w))
  | 0x18#6 => .ok (.daddi (fRt w) (fRs w) (fImm w))
  | 0x19#6 => .ok (.daddiu (fRt w) (fRs w) (fImm w))
  | 0x1A#6 => .ok (.ldl (fRt w) (fRs w) (fImm w))
  | 0x1B#6 => .ok (.ldr (fRt w) (fRs w) (fImm w))
  | 0x20#6 => .ok (.lb (fRt w) (fRs w) (fImm w))
  | 0x21#6 => .ok (.lh (fRt w) (fRs w) (fImm w))
  | 0x22#6 => .ok (.lwl (fRt w) (fRs w) (fImm w))
  | 0x23#6 => .ok (.lw (fRt w) (fRs w) (fImm w))
  | 0x24#6 => .ok (.lbu (fRt w) (fRs w) (fImm w))
  | 0x25#6 => .ok (.lhu (fRt w) (fRs w) (fImm w))
  | 0x26#6 => .ok (.lwr (fRt w) (fRs w) (fImm w))
  | 0x27#6 => .ok (.lwu (fRt w) (fRs w) (fImm w))
  | 0x28#6 => .ok (.sb (fRt w) (fRs w) (fImm w))
  | 0x29#6 => .ok (.sh (fRt w) (fRs w) (fImm w))
  | 0x2A#6 => .ok (.swl (fRt w) (fRs w) (fImm w))
  | 0x2B#6 => .ok (.sw (fRt w) (fRs w) (fImm w))
  | 0x2C#6 => .ok (.sdl (fRt w) (fRs w) (fImm w))
  | 0x2D#6 => .ok (.sdr (fRt w) (fRs w) (fImm w))
  | 0x2E#6 => .ok (.swr (fRt w) (fRs w) (fImm w))
  | 0x2F#6 => .ok (.cache (fRt w) (fRs w) (fImm w))
  | 0x30#6 => .ok (.ll (fRt w) (fRs w) (fImm w))
  | 0x31#6 => .ok (.lwc1 (fRt w) (fRs w) (fImm w))
  | 0x34#6 => .ok (.lld (fRt w) (fRs w) (fImm w))
  | 0x35#6 => .ok (.ldc1 (fRt w) (fRs w) (fImm w))
  | 0x37#6 => .ok (.ld (fRt w) (fRs w) (fImm w))
  | 0x38#6 => .ok (.sc (fRt w) (fRs w) (fImm w))
  | 0x39#6 => .ok (.swc1 (fRt w) (fRs w) (fImm w))
  | 0x3C#6 => .ok (.scd (fRt w) (fRs w) (fImm w))
  | 0x3D#6 => .ok (.sdc1 (fRt w) (fRs w) (fImm w))
  | 0x3F#6 => .ok (.sd (fRt w) (fRs w) (fImm w))
  | o => .error (.opcode o)

/-- The decoder (R147): the word 0 is tested first (R148), then the opcode maps. -/
def decode (w : Word) : Except DecodeError Instr :=
  if w = 0#32 then .ok .nop else decodeOpcode w

/-! ### The encoder, from the same maps; ignored fields are written 0 -/

/-- R-format (R144), and COP1 arithmetic with `rs` = fmt, `rt` = ft, `rd` = fs, `sa` = fd (R145). -/
def packR (op : BitVec 6) (rs rt rd sa : BitVec 5) (funct : BitVec 6) : Word :=
  op ++ rs ++ rt ++ rd ++ sa ++ funct

/-- I-format (R142). -/
def packI (op : BitVec 6) (rs rt : BitVec 5) (imm : BitVec 16) : Word := op ++ rs ++ rt ++ imm

/-- J-format (R143). -/
def packJ (op : BitVec 6) (index : BitVec 26) : Word := op ++ index

/-- SPECIAL with a 20-bit code field (R141). -/
def packCode20 (code : BitVec 20) (funct : BitVec 6) : Word := 0x00#6 ++ code ++ funct

/-- SPECIAL with a 10-bit code field (R141). -/
def packCode10 (rs rt : BitVec 5) (code : BitVec 10) (funct : BitVec 6) : Word :=
  0x00#6 ++ rs ++ rt ++ code ++ funct

/-- The word of an instruction (R141 to R145, R149 to R153). -/
def encode : Instr → Word
  | .nop => 0#32
  | .add rd rs rt => packR 0x00#6 rs rt rd 0x00#5 0x20#6
  | .addu rd rs rt => packR 0x00#6 rs rt rd 0x00#5 0x21#6
  | .sub rd rs rt => packR 0x00#6 rs rt rd 0x00#5 0x22#6
  | .subu rd rs rt => packR 0x00#6 rs rt rd 0x00#5 0x23#6
  | .and rd rs rt => packR 0x00#6 rs rt rd 0x00#5 0x24#6
  | .or rd rs rt => packR 0x00#6 rs rt rd 0x00#5 0x25#6
  | .xor rd rs rt => packR 0x00#6 rs rt rd 0x00#5 0x26#6
  | .nor rd rs rt => packR 0x00#6 rs rt rd 0x00#5 0x27#6
  | .slt rd rs rt => packR 0x00#6 rs rt rd 0x00#5 0x2A#6
  | .sltu rd rs rt => packR 0x00#6 rs rt rd 0x00#5 0x2B#6
  | .dadd rd rs rt => packR 0x00#6 rs rt rd 0x00#5 0x2C#6
  | .daddu rd rs rt => packR 0x00#6 rs rt rd 0x00#5 0x2D#6
  | .dsub rd rs rt => packR 0x00#6 rs rt rd 0x00#5 0x2E#6
  | .dsubu rd rs rt => packR 0x00#6 rs rt rd 0x00#5 0x2F#6
  | .addi rt rs imm => packI 0x08#6 rs rt imm
  | .addiu rt rs imm => packI 0x09#6 rs rt imm
  | .slti rt rs imm => packI 0x0A#6 rs rt imm
  | .sltiu rt rs imm => packI 0x0B#6 rs rt imm
  | .andi rt rs imm => packI 0x0C#6 rs rt imm
  | .ori rt rs imm => packI 0x0D#6 rs rt imm
  | .xori rt rs imm => packI 0x0E#6 rs rt imm
  | .lui rt imm => packI 0x0F#6 0x00#5 rt imm
  | .daddi rt rs imm => packI 0x18#6 rs rt imm
  | .daddiu rt rs imm => packI 0x19#6 rs rt imm
  | .sll rd rt sa => packR 0x00#6 0x00#5 rt rd sa 0x00#6
  | .srl rd rt sa => packR 0x00#6 0x00#5 rt rd sa 0x02#6
  | .sra rd rt sa => packR 0x00#6 0x00#5 rt rd sa 0x03#6
  | .sllv rd rt rs => packR 0x00#6 rs rt rd 0x00#5 0x04#6
  | .srlv rd rt rs => packR 0x00#6 rs rt rd 0x00#5 0x06#6
  | .srav rd rt rs => packR 0x00#6 rs rt rd 0x00#5 0x07#6
  | .dsll rd rt sa => packR 0x00#6 0x00#5 rt rd sa 0x38#6
  | .dsrl rd rt sa => packR 0x00#6 0x00#5 rt rd sa 0x3A#6
  | .dsra rd rt sa => packR 0x00#6 0x00#5 rt rd sa 0x3B#6
  | .dsllv rd rt rs => packR 0x00#6 rs rt rd 0x00#5 0x14#6
  | .dsrlv rd rt rs => packR 0x00#6 rs rt rd 0x00#5 0x16#6
  | .dsrav rd rt rs => packR 0x00#6 rs rt rd 0x00#5 0x17#6
  | .dsll32 rd rt sa => packR 0x00#6 0x00#5 rt rd sa 0x3C#6
  | .dsrl32 rd rt sa => packR 0x00#6 0x00#5 rt rd sa 0x3E#6
  | .dsra32 rd rt sa => packR 0x00#6 0x00#5 rt rd sa 0x3F#6
  | .mult rs rt => packR 0x00#6 rs rt 0x00#5 0x00#5 0x18#6
  | .multu rs rt => packR 0x00#6 rs rt 0x00#5 0x00#5 0x19#6
  | .div rs rt => packR 0x00#6 rs rt 0x00#5 0x00#5 0x1A#6
  | .divu rs rt => packR 0x00#6 rs rt 0x00#5 0x00#5 0x1B#6
  | .dmult rs rt => packR 0x00#6 rs rt 0x00#5 0x00#5 0x1C#6
  | .dmultu rs rt => packR 0x00#6 rs rt 0x00#5 0x00#5 0x1D#6
  | .ddiv rs rt => packR 0x00#6 rs rt 0x00#5 0x00#5 0x1E#6
  | .ddivu rs rt => packR 0x00#6 rs rt 0x00#5 0x00#5 0x1F#6
  | .mfhi rd => packR 0x00#6 0x00#5 0x00#5 rd 0x00#5 0x10#6
  | .mthi rs => packR 0x00#6 rs 0x00#5 0x00#5 0x00#5 0x11#6
  | .mflo rd => packR 0x00#6 0x00#5 0x00#5 rd 0x00#5 0x12#6
  | .mtlo rs => packR 0x00#6 rs 0x00#5 0x00#5 0x00#5 0x13#6
  | .j idx => packJ 0x02#6 idx
  | .jal idx => packJ 0x03#6 idx
  | .jr rs => packR 0x00#6 rs 0x00#5 0x00#5 0x00#5 0x08#6
  | .jalr rd rs => packR 0x00#6 rs 0x00#5 rd 0x00#5 0x09#6
  | .beq rs rt imm => packI 0x04#6 rs rt imm
  | .bne rs rt imm => packI 0x05#6 rs rt imm
  | .blez rs imm => packI 0x06#6 rs 0x00#5 imm
  | .bgtz rs imm => packI 0x07#6 rs 0x00#5 imm
  | .beql rs rt imm => packI 0x14#6 rs rt imm
  | .bnel rs rt imm => packI 0x15#6 rs rt imm
  | .blezl rs imm => packI 0x16#6 rs 0x00#5 imm
  | .bgtzl rs imm => packI 0x17#6 rs 0x00#5 imm
  | .bltz rs imm => packI 0x01#6 rs 0x00#5 imm
  | .bgez rs imm => packI 0x01#6 rs 0x01#5 imm
  | .bltzl rs imm => packI 0x01#6 rs 0x02#5 imm
  | .bgezl rs imm => packI 0x01#6 rs 0x03#5 imm
  | .bltzal rs imm => packI 0x01#6 rs 0x10#5 imm
  | .bgezal rs imm => packI 0x01#6 rs 0x11#5 imm
  | .bltzall rs imm => packI 0x01#6 rs 0x12#5 imm
  | .bgezall rs imm => packI 0x01#6 rs 0x13#5 imm
  | .lb rt base imm => packI 0x20#6 base rt imm
  | .lbu rt base imm => packI 0x24#6 base rt imm
  | .lh rt base imm => packI 0x21#6 base rt imm
  | .lhu rt base imm => packI 0x25#6 base rt imm
  | .lw rt base imm => packI 0x23#6 base rt imm
  | .lwu rt base imm => packI 0x27#6 base rt imm
  | .ld rt base imm => packI 0x37#6 base rt imm
  | .lwl rt base imm => packI 0x22#6 base rt imm
  | .lwr rt base imm => packI 0x26#6 base rt imm
  | .ldl rt base imm => packI 0x1A#6 base rt imm
  | .ldr rt base imm => packI 0x1B#6 base rt imm
  | .sb rt base imm => packI 0x28#6 base rt imm
  | .sh rt base imm => packI 0x29#6 base rt imm
  | .sw rt base imm => packI 0x2B#6 base rt imm
  | .sd rt base imm => packI 0x3F#6 base rt imm
  | .swl rt base imm => packI 0x2A#6 base rt imm
  | .swr rt base imm => packI 0x2E#6 base rt imm
  | .sdl rt base imm => packI 0x2C#6 base rt imm
  | .sdr rt base imm => packI 0x2D#6 base rt imm
  | .ll rt base imm => packI 0x30#6 base rt imm
  | .lld rt base imm => packI 0x34#6 base rt imm
  | .sc rt base imm => packI 0x38#6 base rt imm
  | .scd rt base imm => packI 0x3C#6 base rt imm
  | .lwc1 ft base imm => packI 0x31#6 base ft imm
  | .ldc1 ft base imm => packI 0x35#6 base ft imm
  | .swc1 ft base imm => packI 0x39#6 base ft imm
  | .sdc1 ft base imm => packI 0x3D#6 base ft imm
  | .syscall code => packCode20 code 0x0C#6
  | .break_ code => packCode20 code 0x0D#6
  | .sync => packR 0x00#6 0x00#5 0x00#5 0x00#5 0x00#5 0x0F#6
  | .cache op base imm => packI 0x2F#6 base op imm
  | .tge rs rt code => packCode10 rs rt code 0x30#6
  | .tgeu rs rt code => packCode10 rs rt code 0x31#6
  | .tlt rs rt code => packCode10 rs rt code 0x32#6
  | .tltu rs rt code => packCode10 rs rt code 0x33#6
  | .teq rs rt code => packCode10 rs rt code 0x34#6
  | .tne rs rt code => packCode10 rs rt code 0x36#6
  | .tgei rs imm => packI 0x01#6 rs 0x08#5 imm
  | .tgeiu rs imm => packI 0x01#6 rs 0x09#5 imm
  | .tlti rs imm => packI 0x01#6 rs 0x0A#5 imm
  | .tltiu rs imm => packI 0x01#6 rs 0x0B#5 imm
  | .teqi rs imm => packI 0x01#6 rs 0x0C#5 imm
  | .tnei rs imm => packI 0x01#6 rs 0x0E#5 imm
  | .cop2 code => packJ 0x12#6 code
  | .mfc0 rt rd => packR 0x10#6 0x00#5 rt rd 0x00#5 0x00#6
  | .dmfc0 rt rd => packR 0x10#6 0x01#5 rt rd 0x00#5 0x00#6
  | .mtc0 rt rd => packR 0x10#6 0x04#5 rt rd 0x00#5 0x00#6
  | .dmtc0 rt rd => packR 0x10#6 0x05#5 rt rd 0x00#5 0x00#6
  | .tlbr => packR 0x10#6 0x10#5 0x00#5 0x00#5 0x00#5 0x01#6
  | .tlbwi => packR 0x10#6 0x10#5 0x00#5 0x00#5 0x00#5 0x02#6
  | .tlbwr => packR 0x10#6 0x10#5 0x00#5 0x00#5 0x00#5 0x06#6
  | .tlbp => packR 0x10#6 0x10#5 0x00#5 0x00#5 0x00#5 0x08#6
  | .eret => packR 0x10#6 0x10#5 0x00#5 0x00#5 0x00#5 0x18#6
  | .mfc1 rt fs => packR 0x11#6 0x00#5 rt fs 0x00#5 0x00#6
  | .dmfc1 rt fs => packR 0x11#6 0x01#5 rt fs 0x00#5 0x00#6
  | .cfc1 rt fs => packR 0x11#6 0x02#5 rt fs 0x00#5 0x00#6
  | .mtc1 rt fs => packR 0x11#6 0x04#5 rt fs 0x00#5 0x00#6
  | .dmtc1 rt fs => packR 0x11#6 0x05#5 rt fs 0x00#5 0x00#6
  | .ctc1 rt fs => packR 0x11#6 0x06#5 rt fs 0x00#5 0x00#6
  | .bc1f imm => packI 0x11#6 0x08#5 0x00#5 imm
  | .bc1t imm => packI 0x11#6 0x08#5 0x01#5 imm
  | .bc1fl imm => packI 0x11#6 0x08#5 0x02#5 imm
  | .bc1tl imm => packI 0x11#6 0x08#5 0x03#5 imm
  | .addS fd fs ft => packR 0x11#6 0x10#5 ft fs fd 0x00#6
  | .addD fd fs ft => packR 0x11#6 0x11#5 ft fs fd 0x00#6
  | .subS fd fs ft => packR 0x11#6 0x10#5 ft fs fd 0x01#6
  | .subD fd fs ft => packR 0x11#6 0x11#5 ft fs fd 0x01#6
  | .mulS fd fs ft => packR 0x11#6 0x10#5 ft fs fd 0x02#6
  | .mulD fd fs ft => packR 0x11#6 0x11#5 ft fs fd 0x02#6
  | .divS fd fs ft => packR 0x11#6 0x10#5 ft fs fd 0x03#6
  | .divD fd fs ft => packR 0x11#6 0x11#5 ft fs fd 0x03#6
  | .sqrtS fd fs => packR 0x11#6 0x10#5 0x00#5 fs fd 0x04#6
  | .sqrtD fd fs => packR 0x11#6 0x11#5 0x00#5 fs fd 0x04#6
  | .absS fd fs => packR 0x11#6 0x10#5 0x00#5 fs fd 0x05#6
  | .absD fd fs => packR 0x11#6 0x11#5 0x00#5 fs fd 0x05#6
  | .movS fd fs => packR 0x11#6 0x10#5 0x00#5 fs fd 0x06#6
  | .movD fd fs => packR 0x11#6 0x11#5 0x00#5 fs fd 0x06#6
  | .negS fd fs => packR 0x11#6 0x10#5 0x00#5 fs fd 0x07#6
  | .negD fd fs => packR 0x11#6 0x11#5 0x00#5 fs fd 0x07#6
  | .roundLS fd fs => packR 0x11#6 0x10#5 0x00#5 fs fd 0x08#6
  | .roundLD fd fs => packR 0x11#6 0x11#5 0x00#5 fs fd 0x08#6
  | .truncLS fd fs => packR 0x11#6 0x10#5 0x00#5 fs fd 0x09#6
  | .truncLD fd fs => packR 0x11#6 0x11#5 0x00#5 fs fd 0x09#6
  | .ceilLS fd fs => packR 0x11#6 0x10#5 0x00#5 fs fd 0x0A#6
  | .ceilLD fd fs => packR 0x11#6 0x11#5 0x00#5 fs fd 0x0A#6
  | .floorLS fd fs => packR 0x11#6 0x10#5 0x00#5 fs fd 0x0B#6
  | .floorLD fd fs => packR 0x11#6 0x11#5 0x00#5 fs fd 0x0B#6
  | .roundWS fd fs => packR 0x11#6 0x10#5 0x00#5 fs fd 0x0C#6
  | .roundWD fd fs => packR 0x11#6 0x11#5 0x00#5 fs fd 0x0C#6
  | .truncWS fd fs => packR 0x11#6 0x10#5 0x00#5 fs fd 0x0D#6
  | .truncWD fd fs => packR 0x11#6 0x11#5 0x00#5 fs fd 0x0D#6
  | .ceilWS fd fs => packR 0x11#6 0x10#5 0x00#5 fs fd 0x0E#6
  | .ceilWD fd fs => packR 0x11#6 0x11#5 0x00#5 fs fd 0x0E#6
  | .floorWS fd fs => packR 0x11#6 0x10#5 0x00#5 fs fd 0x0F#6
  | .floorWD fd fs => packR 0x11#6 0x11#5 0x00#5 fs fd 0x0F#6
  | .cvtSD fd fs => packR 0x11#6 0x11#5 0x00#5 fs fd 0x20#6
  | .cvtSW fd fs => packR 0x11#6 0x14#5 0x00#5 fs fd 0x20#6
  | .cvtSL fd fs => packR 0x11#6 0x15#5 0x00#5 fs fd 0x20#6
  | .cvtDS fd fs => packR 0x11#6 0x10#5 0x00#5 fs fd 0x21#6
  | .cvtDW fd fs => packR 0x11#6 0x14#5 0x00#5 fs fd 0x21#6
  | .cvtDL fd fs => packR 0x11#6 0x15#5 0x00#5 fs fd 0x21#6
  | .cvtWS fd fs => packR 0x11#6 0x10#5 0x00#5 fs fd 0x24#6
  | .cvtWD fd fs => packR 0x11#6 0x11#5 0x00#5 fs fd 0x24#6
  | .cvtLS fd fs => packR 0x11#6 0x10#5 0x00#5 fs fd 0x25#6
  | .cvtLD fd fs => packR 0x11#6 0x11#5 0x00#5 fs fd 0x25#6
  | .cFS fs ft => packR 0x11#6 0x10#5 ft fs 0x00#5 0x30#6
  | .cFD fs ft => packR 0x11#6 0x11#5 ft fs 0x00#5 0x30#6
  | .cUnS fs ft => packR 0x11#6 0x10#5 ft fs 0x00#5 0x31#6
  | .cUnD fs ft => packR 0x11#6 0x11#5 ft fs 0x00#5 0x31#6
  | .cEqS fs ft => packR 0x11#6 0x10#5 ft fs 0x00#5 0x32#6
  | .cEqD fs ft => packR 0x11#6 0x11#5 ft fs 0x00#5 0x32#6
  | .cUeqS fs ft => packR 0x11#6 0x10#5 ft fs 0x00#5 0x33#6
  | .cUeqD fs ft => packR 0x11#6 0x11#5 ft fs 0x00#5 0x33#6
  | .cOltS fs ft => packR 0x11#6 0x10#5 ft fs 0x00#5 0x34#6
  | .cOltD fs ft => packR 0x11#6 0x11#5 ft fs 0x00#5 0x34#6
  | .cUltS fs ft => packR 0x11#6 0x10#5 ft fs 0x00#5 0x35#6
  | .cUltD fs ft => packR 0x11#6 0x11#5 ft fs 0x00#5 0x35#6
  | .cOleS fs ft => packR 0x11#6 0x10#5 ft fs 0x00#5 0x36#6
  | .cOleD fs ft => packR 0x11#6 0x11#5 ft fs 0x00#5 0x36#6
  | .cUleS fs ft => packR 0x11#6 0x10#5 ft fs 0x00#5 0x37#6
  | .cUleD fs ft => packR 0x11#6 0x11#5 ft fs 0x00#5 0x37#6
  | .cSfS fs ft => packR 0x11#6 0x10#5 ft fs 0x00#5 0x38#6
  | .cSfD fs ft => packR 0x11#6 0x11#5 ft fs 0x00#5 0x38#6
  | .cNgleS fs ft => packR 0x11#6 0x10#5 ft fs 0x00#5 0x39#6
  | .cNgleD fs ft => packR 0x11#6 0x11#5 ft fs 0x00#5 0x39#6
  | .cSeqS fs ft => packR 0x11#6 0x10#5 ft fs 0x00#5 0x3A#6
  | .cSeqD fs ft => packR 0x11#6 0x11#5 ft fs 0x00#5 0x3A#6
  | .cNglS fs ft => packR 0x11#6 0x10#5 ft fs 0x00#5 0x3B#6
  | .cNglD fs ft => packR 0x11#6 0x11#5 ft fs 0x00#5 0x3B#6
  | .cLtS fs ft => packR 0x11#6 0x10#5 ft fs 0x00#5 0x3C#6
  | .cLtD fs ft => packR 0x11#6 0x11#5 ft fs 0x00#5 0x3C#6
  | .cNgeS fs ft => packR 0x11#6 0x10#5 ft fs 0x00#5 0x3D#6
  | .cNgeD fs ft => packR 0x11#6 0x11#5 ft fs 0x00#5 0x3D#6
  | .cLeS fs ft => packR 0x11#6 0x10#5 ft fs 0x00#5 0x3E#6
  | .cLeD fs ft => packR 0x11#6 0x11#5 ft fs 0x00#5 0x3E#6
  | .cNgtS fs ft => packR 0x11#6 0x10#5 ft fs 0x00#5 0x3F#6
  | .cNgtD fs ft => packR 0x11#6 0x11#5 ft fs 0x00#5 0x3F#6

/-! ### The rows of spec/opcode_table.json, written out again: what a word of each instruction must hold -/

/-- A row of spec/opcode_table.json: a word belongs to it when `word &&& mask = bits`; the decoder looks at none
of the bits of `ignored` (the `z` positions, 30_encoding R147). -/
structure OpcodeRow where
  bits : Word
  mask : Word
  ignored : Word
  deriving DecidableEq, Repr

/-- Does a word belong to a row (30_encoding R147, R155)? -/
def OpcodeRow.holds (r : OpcodeRow) (w : Word) : Bool := w &&& r.mask == r.bits

/-- The row of each instruction. -/
def Instr.row : Instr → OpcodeRow
  | .nop => ⟨0x00000000#32, 0xFFFFFFFF#32, 0x00000000#32⟩
  | .add _ _ _ => ⟨0x00000020#32, 0xFC00003F#32, 0x000007C0#32⟩
  | .addu _ _ _ => ⟨0x00000021#32, 0xFC00003F#32, 0x000007C0#32⟩
  | .sub _ _ _ => ⟨0x00000022#32, 0xFC00003F#32, 0x000007C0#32⟩
  | .subu _ _ _ => ⟨0x00000023#32, 0xFC00003F#32, 0x000007C0#32⟩
  | .and _ _ _ => ⟨0x00000024#32, 0xFC00003F#32, 0x000007C0#32⟩
  | .or _ _ _ => ⟨0x00000025#32, 0xFC00003F#32, 0x000007C0#32⟩
  | .xor _ _ _ => ⟨0x00000026#32, 0xFC00003F#32, 0x000007C0#32⟩
  | .nor _ _ _ => ⟨0x00000027#32, 0xFC00003F#32, 0x000007C0#32⟩
  | .slt _ _ _ => ⟨0x0000002A#32, 0xFC00003F#32, 0x000007C0#32⟩
  | .sltu _ _ _ => ⟨0x0000002B#32, 0xFC00003F#32, 0x000007C0#32⟩
  | .dadd _ _ _ => ⟨0x0000002C#32, 0xFC00003F#32, 0x000007C0#32⟩
  | .daddu _ _ _ => ⟨0x0000002D#32, 0xFC00003F#32, 0x000007C0#32⟩
  | .dsub _ _ _ => ⟨0x0000002E#32, 0xFC00003F#32, 0x000007C0#32⟩
  | .dsubu _ _ _ => ⟨0x0000002F#32, 0xFC00003F#32, 0x000007C0#32⟩
  | .addi _ _ _ => ⟨0x20000000#32, 0xFC000000#32, 0x00000000#32⟩
  | .addiu _ _ _ => ⟨0x24000000#32, 0xFC000000#32, 0x00000000#32⟩
  | .slti _ _ _ => ⟨0x28000000#32, 0xFC000000#32, 0x00000000#32⟩
  | .sltiu _ _ _ => ⟨0x2C000000#32, 0xFC000000#32, 0x00000000#32⟩
  | .andi _ _ _ => ⟨0x30000000#32, 0xFC000000#32, 0x00000000#32⟩
  | .ori _ _ _ => ⟨0x34000000#32, 0xFC000000#32, 0x00000000#32⟩
  | .xori _ _ _ => ⟨0x38000000#32, 0xFC000000#32, 0x00000000#32⟩
  | .lui _ _ => ⟨0x3C000000#32, 0xFC000000#32, 0x03E00000#32⟩
  | .daddi _ _ _ => ⟨0x60000000#32, 0xFC000000#32, 0x00000000#32⟩
  | .daddiu _ _ _ => ⟨0x64000000#32, 0xFC000000#32, 0x00000000#32⟩
  | .sll _ _ _ => ⟨0x00000000#32, 0xFC00003F#32, 0x03E00000#32⟩
  | .srl _ _ _ => ⟨0x00000002#32, 0xFC00003F#32, 0x03E00000#32⟩
  | .sra _ _ _ => ⟨0x00000003#32, 0xFC00003F#32, 0x03E00000#32⟩
  | .sllv _ _ _ => ⟨0x00000004#32, 0xFC00003F#32, 0x000007C0#32⟩
  | .srlv _ _ _ => ⟨0x00000006#32, 0xFC00003F#32, 0x000007C0#32⟩
  | .srav _ _ _ => ⟨0x00000007#32, 0xFC00003F#32, 0x000007C0#32⟩
  | .dsll _ _ _ => ⟨0x00000038#32, 0xFC00003F#32, 0x03E00000#32⟩
  | .dsrl _ _ _ => ⟨0x0000003A#32, 0xFC00003F#32, 0x03E00000#32⟩
  | .dsra _ _ _ => ⟨0x0000003B#32, 0xFC00003F#32, 0x03E00000#32⟩
  | .dsllv _ _ _ => ⟨0x00000014#32, 0xFC00003F#32, 0x000007C0#32⟩
  | .dsrlv _ _ _ => ⟨0x00000016#32, 0xFC00003F#32, 0x000007C0#32⟩
  | .dsrav _ _ _ => ⟨0x00000017#32, 0xFC00003F#32, 0x000007C0#32⟩
  | .dsll32 _ _ _ => ⟨0x0000003C#32, 0xFC00003F#32, 0x03E00000#32⟩
  | .dsrl32 _ _ _ => ⟨0x0000003E#32, 0xFC00003F#32, 0x03E00000#32⟩
  | .dsra32 _ _ _ => ⟨0x0000003F#32, 0xFC00003F#32, 0x03E00000#32⟩
  | .mult _ _ => ⟨0x00000018#32, 0xFC00003F#32, 0x0000FFC0#32⟩
  | .multu _ _ => ⟨0x00000019#32, 0xFC00003F#32, 0x0000FFC0#32⟩
  | .div _ _ => ⟨0x0000001A#32, 0xFC00003F#32, 0x0000FFC0#32⟩
  | .divu _ _ => ⟨0x0000001B#32, 0xFC00003F#32, 0x0000FFC0#32⟩
  | .dmult _ _ => ⟨0x0000001C#32, 0xFC00003F#32, 0x0000FFC0#32⟩
  | .dmultu _ _ => ⟨0x0000001D#32, 0xFC00003F#32, 0x0000FFC0#32⟩
  | .ddiv _ _ => ⟨0x0000001E#32, 0xFC00003F#32, 0x0000FFC0#32⟩
  | .ddivu _ _ => ⟨0x0000001F#32, 0xFC00003F#32, 0x0000FFC0#32⟩
  | .mfhi _ => ⟨0x00000010#32, 0xFC00003F#32, 0x03FF07C0#32⟩
  | .mthi _ => ⟨0x00000011#32, 0xFC00003F#32, 0x001FFFC0#32⟩
  | .mflo _ => ⟨0x00000012#32, 0xFC00003F#32, 0x03FF07C0#32⟩
  | .mtlo _ => ⟨0x00000013#32, 0xFC00003F#32, 0x001FFFC0#32⟩
  | .j _ => ⟨0x08000000#32, 0xFC000000#32, 0x00000000#32⟩
  | .jal _ => ⟨0x0C000000#32, 0xFC000000#32, 0x00000000#32⟩
  | .jr _ => ⟨0x00000008#32, 0xFC00003F#32, 0x001FFFC0#32⟩
  | .jalr _ _ => ⟨0x00000009#32, 0xFC00003F#32, 0x001F07C0#32⟩
  | .beq _ _ _ => ⟨0x10000000#32, 0xFC000000#32, 0x00000000#32⟩
  | .bne _ _ _ => ⟨0x14000000#32, 0xFC000000#32, 0x00000000#32⟩
  | .blez _ _ => ⟨0x18000000#32, 0xFC000000#32, 0x001F0000#32⟩
  | .bgtz _ _ => ⟨0x1C000000#32, 0xFC000000#32, 0x001F0000#32⟩
  | .beql _ _ _ => ⟨0x50000000#32, 0xFC000000#32, 0x00000000#32⟩
  | .bnel _ _ _ => ⟨0x54000000#32, 0xFC000000#32, 0x00000000#32⟩
  | .blezl _ _ => ⟨0x58000000#32, 0xFC000000#32, 0x001F0000#32⟩
  | .bgtzl _ _ => ⟨0x5C000000#32, 0xFC000000#32, 0x001F0000#32⟩
  | .bltz _ _ => ⟨0x04000000#32, 0xFC1F0000#32, 0x00000000#32⟩
  | .bgez _ _ => ⟨0x04010000#32, 0xFC1F0000#32, 0x00000000#32⟩
  | .bltzl _ _ => ⟨0x04020000#32, 0xFC1F0000#32, 0x00000000#32⟩
  | .bgezl _ _ => ⟨0x04030000#32, 0xFC1F0000#32, 0x00000000#32⟩
  | .bltzal _ _ => ⟨0x04100000#32, 0xFC1F0000#32, 0x00000000#32⟩
  | .bgezal _ _ => ⟨0x04110000#32, 0xFC1F0000#32, 0x00000000#32⟩
  | .bltzall _ _ => ⟨0x04120000#32, 0xFC1F0000#32, 0x00000000#32⟩
  | .bgezall _ _ => ⟨0x04130000#32, 0xFC1F0000#32, 0x00000000#32⟩
  | .lb _ _ _ => ⟨0x80000000#32, 0xFC000000#32, 0x00000000#32⟩
  | .lbu _ _ _ => ⟨0x90000000#32, 0xFC000000#32, 0x00000000#32⟩
  | .lh _ _ _ => ⟨0x84000000#32, 0xFC000000#32, 0x00000000#32⟩
  | .lhu _ _ _ => ⟨0x94000000#32, 0xFC000000#32, 0x00000000#32⟩
  | .lw _ _ _ => ⟨0x8C000000#32, 0xFC000000#32, 0x00000000#32⟩
  | .lwu _ _ _ => ⟨0x9C000000#32, 0xFC000000#32, 0x00000000#32⟩
  | .ld _ _ _ => ⟨0xDC000000#32, 0xFC000000#32, 0x00000000#32⟩
  | .lwl _ _ _ => ⟨0x88000000#32, 0xFC000000#32, 0x00000000#32⟩
  | .lwr _ _ _ => ⟨0x98000000#32, 0xFC000000#32, 0x00000000#32⟩
  | .ldl _ _ _ => ⟨0x68000000#32, 0xFC000000#32, 0x00000000#32⟩
  | .ldr _ _ _ => ⟨0x6C000000#32, 0xFC000000#32, 0x00000000#32⟩
  | .sb _ _ _ => ⟨0xA0000000#32, 0xFC000000#32, 0x00000000#32⟩
  | .sh _ _ _ => ⟨0xA4000000#32, 0xFC000000#32, 0x00000000#32⟩
  | .sw _ _ _ => ⟨0xAC000000#32, 0xFC000000#32, 0x00000000#32⟩
  | .sd _ _ _ => ⟨0xFC000000#32, 0xFC000000#32, 0x00000000#32⟩
  | .swl _ _ _ => ⟨0xA8000000#32, 0xFC000000#32, 0x00000000#32⟩
  | .swr _ _ _ => ⟨0xB8000000#32, 0xFC000000#32, 0x00000000#32⟩
  | .sdl _ _ _ => ⟨0xB0000000#32, 0xFC000000#32, 0x00000000#32⟩
  | .sdr _ _ _ => ⟨0xB4000000#32, 0xFC000000#32, 0x00000000#32⟩
  | .ll _ _ _ => ⟨0xC0000000#32, 0xFC000000#32, 0x00000000#32⟩
  | .lld _ _ _ => ⟨0xD0000000#32, 0xFC000000#32, 0x00000000#32⟩
  | .sc _ _ _ => ⟨0xE0000000#32, 0xFC000000#32, 0x00000000#32⟩
  | .scd _ _ _ => ⟨0xF0000000#32, 0xFC000000#32, 0x00000000#32⟩
  | .lwc1 _ _ _ => ⟨0xC4000000#32, 0xFC000000#32, 0x00000000#32⟩
  | .ldc1 _ _ _ => ⟨0xD4000000#32, 0xFC000000#32, 0x00000000#32⟩
  | .swc1 _ _ _ => ⟨0xE4000000#32, 0xFC000000#32, 0x00000000#32⟩
  | .sdc1 _ _ _ => ⟨0xF4000000#32, 0xFC000000#32, 0x00000000#32⟩
  | .syscall _ => ⟨0x0000000C#32, 0xFC00003F#32, 0x00000000#32⟩
  | .break_ _ => ⟨0x0000000D#32, 0xFC00003F#32, 0x00000000#32⟩
  | .sync => ⟨0x0000000F#32, 0xFC00003F#32, 0x03FFFFC0#32⟩
  | .cache _ _ _ => ⟨0xBC000000#32, 0xFC000000#32, 0x00000000#32⟩
  | .tge _ _ _ => ⟨0x00000030#32, 0xFC00003F#32, 0x00000000#32⟩
  | .tgeu _ _ _ => ⟨0x00000031#32, 0xFC00003F#32, 0x00000000#32⟩
  | .tlt _ _ _ => ⟨0x00000032#32, 0xFC00003F#32, 0x00000000#32⟩
  | .tltu _ _ _ => ⟨0x00000033#32, 0xFC00003F#32, 0x00000000#32⟩
  | .teq _ _ _ => ⟨0x00000034#32, 0xFC00003F#32, 0x00000000#32⟩
  | .tne _ _ _ => ⟨0x00000036#32, 0xFC00003F#32, 0x00000000#32⟩
  | .tgei _ _ => ⟨0x04080000#32, 0xFC1F0000#32, 0x00000000#32⟩
  | .tgeiu _ _ => ⟨0x04090000#32, 0xFC1F0000#32, 0x00000000#32⟩
  | .tlti _ _ => ⟨0x040A0000#32, 0xFC1F0000#32, 0x00000000#32⟩
  | .tltiu _ _ => ⟨0x040B0000#32, 0xFC1F0000#32, 0x00000000#32⟩
  | .teqi _ _ => ⟨0x040C0000#32, 0xFC1F0000#32, 0x00000000#32⟩
  | .tnei _ _ => ⟨0x040E0000#32, 0xFC1F0000#32, 0x00000000#32⟩
  | .cop2 _ => ⟨0x48000000#32, 0xFC000000#32, 0x00000000#32⟩
  | .mfc0 _ _ => ⟨0x40000000#32, 0xFFE00000#32, 0x000007FF#32⟩
  | .dmfc0 _ _ => ⟨0x40200000#32, 0xFFE00000#32, 0x000007FF#32⟩
  | .mtc0 _ _ => ⟨0x40800000#32, 0xFFE00000#32, 0x000007FF#32⟩
  | .dmtc0 _ _ => ⟨0x40A00000#32, 0xFFE00000#32, 0x000007FF#32⟩
  | .tlbr => ⟨0x42000001#32, 0xFE00003F#32, 0x01FFFFC0#32⟩
  | .tlbwi => ⟨0x42000002#32, 0xFE00003F#32, 0x01FFFFC0#32⟩
  | .tlbwr => ⟨0x42000006#32, 0xFE00003F#32, 0x01FFFFC0#32⟩
  | .tlbp => ⟨0x42000008#32, 0xFE00003F#32, 0x01FFFFC0#32⟩
  | .eret => ⟨0x42000018#32, 0xFE00003F#32, 0x01FFFFC0#32⟩
  | .mfc1 _ _ => ⟨0x44000000#32, 0xFFE00000#32, 0x000007FF#32⟩
  | .dmfc1 _ _ => ⟨0x44200000#32, 0xFFE00000#32, 0x000007FF#32⟩
  | .cfc1 _ _ => ⟨0x44400000#32, 0xFFE00000#32, 0x000007FF#32⟩
  | .mtc1 _ _ => ⟨0x44800000#32, 0xFFE00000#32, 0x000007FF#32⟩
  | .dmtc1 _ _ => ⟨0x44A00000#32, 0xFFE00000#32, 0x000007FF#32⟩
  | .ctc1 _ _ => ⟨0x44C00000#32, 0xFFE00000#32, 0x000007FF#32⟩
  | .bc1f _ => ⟨0x45000000#32, 0xFFFF0000#32, 0x00000000#32⟩
  | .bc1t _ => ⟨0x45010000#32, 0xFFFF0000#32, 0x00000000#32⟩
  | .bc1fl _ => ⟨0x45020000#32, 0xFFFF0000#32, 0x00000000#32⟩
  | .bc1tl _ => ⟨0x45030000#32, 0xFFFF0000#32, 0x00000000#32⟩
  | .addS _ _ _ => ⟨0x46000000#32, 0xFFE0003F#32, 0x00000000#32⟩
  | .addD _ _ _ => ⟨0x46200000#32, 0xFFE0003F#32, 0x00000000#32⟩
  | .subS _ _ _ => ⟨0x46000001#32, 0xFFE0003F#32, 0x00000000#32⟩
  | .subD _ _ _ => ⟨0x46200001#32, 0xFFE0003F#32, 0x00000000#32⟩
  | .mulS _ _ _ => ⟨0x46000002#32, 0xFFE0003F#32, 0x00000000#32⟩
  | .mulD _ _ _ => ⟨0x46200002#32, 0xFFE0003F#32, 0x00000000#32⟩
  | .divS _ _ _ => ⟨0x46000003#32, 0xFFE0003F#32, 0x00000000#32⟩
  | .divD _ _ _ => ⟨0x46200003#32, 0xFFE0003F#32, 0x00000000#32⟩
  | .sqrtS _ _ => ⟨0x46000004#32, 0xFFE0003F#32, 0x001F0000#32⟩
  | .sqrtD _ _ => ⟨0x46200004#32, 0xFFE0003F#32, 0x001F0000#32⟩
  | .absS _ _ => ⟨0x46000005#32, 0xFFE0003F#32, 0x001F0000#32⟩
  | .absD _ _ => ⟨0x46200005#32, 0xFFE0003F#32, 0x001F0000#32⟩
  | .movS _ _ => ⟨0x46000006#32, 0xFFE0003F#32, 0x001F0000#32⟩
  | .movD _ _ => ⟨0x46200006#32, 0xFFE0003F#32, 0x001F0000#32⟩
  | .negS _ _ => ⟨0x46000007#32, 0xFFE0003F#32, 0x001F0000#32⟩
  | .negD _ _ => ⟨0x46200007#32, 0xFFE0003F#32, 0x001F0000#32⟩
  | .roundLS _ _ => ⟨0x46000008#32, 0xFFE0003F#32, 0x001F0000#32⟩
  | .roundLD _ _ => ⟨0x46200008#32, 0xFFE0003F#32, 0x001F0000#32⟩
  | .truncLS _ _ => ⟨0x46000009#32, 0xFFE0003F#32, 0x001F0000#32⟩
  | .truncLD _ _ => ⟨0x46200009#32, 0xFFE0003F#32, 0x001F0000#32⟩
  | .ceilLS _ _ => ⟨0x4600000A#32, 0xFFE0003F#32, 0x001F0000#32⟩
  | .ceilLD _ _ => ⟨0x4620000A#32, 0xFFE0003F#32, 0x001F0000#32⟩
  | .floorLS _ _ => ⟨0x4600000B#32, 0xFFE0003F#32, 0x001F0000#32⟩
  | .floorLD _ _ => ⟨0x4620000B#32, 0xFFE0003F#32, 0x001F0000#32⟩
  | .roundWS _ _ => ⟨0x4600000C#32, 0xFFE0003F#32, 0x001F0000#32⟩
  | .roundWD _ _ => ⟨0x4620000C#32, 0xFFE0003F#32, 0x001F0000#32⟩
  | .truncWS _ _ => ⟨0x4600000D#32, 0xFFE0003F#32, 0x001F0000#32⟩
  | .truncWD _ _ => ⟨0x4620000D#32, 0xFFE0003F#32, 0x001F0000#32⟩
  | .ceilWS _ _ => ⟨0x4600000E#32, 0xFFE0003F#32, 0x001F0000#32⟩
  | .ceilWD _ _ => ⟨0x4620000E#32, 0xFFE0003F#32, 0x001F0000#32⟩
  | .floorWS _ _ => ⟨0x4600000F#32, 0xFFE0003F#32, 0x001F0000#32⟩
  | .floorWD _ _ => ⟨0x4620000F#32, 0xFFE0003F#32, 0x001F0000#32⟩
  | .cvtSD _ _ => ⟨0x46200020#32, 0xFFE0003F#32, 0x001F0000#32⟩
  | .cvtSW _ _ => ⟨0x46800020#32, 0xFFE0003F#32, 0x001F0000#32⟩
  | .cvtSL _ _ => ⟨0x46A00020#32, 0xFFE0003F#32, 0x001F0000#32⟩
  | .cvtDS _ _ => ⟨0x46000021#32, 0xFFE0003F#32, 0x001F0000#32⟩
  | .cvtDW _ _ => ⟨0x46800021#32, 0xFFE0003F#32, 0x001F0000#32⟩
  | .cvtDL _ _ => ⟨0x46A00021#32, 0xFFE0003F#32, 0x001F0000#32⟩
  | .cvtWS _ _ => ⟨0x46000024#32, 0xFFE0003F#32, 0x001F0000#32⟩
  | .cvtWD _ _ => ⟨0x46200024#32, 0xFFE0003F#32, 0x001F0000#32⟩
  | .cvtLS _ _ => ⟨0x46000025#32, 0xFFE0003F#32, 0x001F0000#32⟩
  | .cvtLD _ _ => ⟨0x46200025#32, 0xFFE0003F#32, 0x001F0000#32⟩
  | .cFS _ _ => ⟨0x46000030#32, 0xFFE0003F#32, 0x000007C0#32⟩
  | .cFD _ _ => ⟨0x46200030#32, 0xFFE0003F#32, 0x000007C0#32⟩
  | .cUnS _ _ => ⟨0x46000031#32, 0xFFE0003F#32, 0x000007C0#32⟩
  | .cUnD _ _ => ⟨0x46200031#32, 0xFFE0003F#32, 0x000007C0#32⟩
  | .cEqS _ _ => ⟨0x46000032#32, 0xFFE0003F#32, 0x000007C0#32⟩
  | .cEqD _ _ => ⟨0x46200032#32, 0xFFE0003F#32, 0x000007C0#32⟩
  | .cUeqS _ _ => ⟨0x46000033#32, 0xFFE0003F#32, 0x000007C0#32⟩
  | .cUeqD _ _ => ⟨0x46200033#32, 0xFFE0003F#32, 0x000007C0#32⟩
  | .cOltS _ _ => ⟨0x46000034#32, 0xFFE0003F#32, 0x000007C0#32⟩
  | .cOltD _ _ => ⟨0x46200034#32, 0xFFE0003F#32, 0x000007C0#32⟩
  | .cUltS _ _ => ⟨0x46000035#32, 0xFFE0003F#32, 0x000007C0#32⟩
  | .cUltD _ _ => ⟨0x46200035#32, 0xFFE0003F#32, 0x000007C0#32⟩
  | .cOleS _ _ => ⟨0x46000036#32, 0xFFE0003F#32, 0x000007C0#32⟩
  | .cOleD _ _ => ⟨0x46200036#32, 0xFFE0003F#32, 0x000007C0#32⟩
  | .cUleS _ _ => ⟨0x46000037#32, 0xFFE0003F#32, 0x000007C0#32⟩
  | .cUleD _ _ => ⟨0x46200037#32, 0xFFE0003F#32, 0x000007C0#32⟩
  | .cSfS _ _ => ⟨0x46000038#32, 0xFFE0003F#32, 0x000007C0#32⟩
  | .cSfD _ _ => ⟨0x46200038#32, 0xFFE0003F#32, 0x000007C0#32⟩
  | .cNgleS _ _ => ⟨0x46000039#32, 0xFFE0003F#32, 0x000007C0#32⟩
  | .cNgleD _ _ => ⟨0x46200039#32, 0xFFE0003F#32, 0x000007C0#32⟩
  | .cSeqS _ _ => ⟨0x4600003A#32, 0xFFE0003F#32, 0x000007C0#32⟩
  | .cSeqD _ _ => ⟨0x4620003A#32, 0xFFE0003F#32, 0x000007C0#32⟩
  | .cNglS _ _ => ⟨0x4600003B#32, 0xFFE0003F#32, 0x000007C0#32⟩
  | .cNglD _ _ => ⟨0x4620003B#32, 0xFFE0003F#32, 0x000007C0#32⟩
  | .cLtS _ _ => ⟨0x4600003C#32, 0xFFE0003F#32, 0x000007C0#32⟩
  | .cLtD _ _ => ⟨0x4620003C#32, 0xFFE0003F#32, 0x000007C0#32⟩
  | .cNgeS _ _ => ⟨0x4600003D#32, 0xFFE0003F#32, 0x000007C0#32⟩
  | .cNgeD _ _ => ⟨0x4620003D#32, 0xFFE0003F#32, 0x000007C0#32⟩
  | .cLeS _ _ => ⟨0x4600003E#32, 0xFFE0003F#32, 0x000007C0#32⟩
  | .cLeD _ _ => ⟨0x4620003E#32, 0xFFE0003F#32, 0x000007C0#32⟩
  | .cNgtS _ _ => ⟨0x4600003F#32, 0xFFE0003F#32, 0x000007C0#32⟩
  | .cNgtD _ _ => ⟨0x4620003F#32, 0xFFE0003F#32, 0x000007C0#32⟩

/-! ### Words as bytes, big-endian: the primary opcode is in the byte at the lowest address (20_memory R82) -/

/-- The four bytes of a word, lowest address first. -/
def wordBytes (w : Word) : List Byte :=
  [w.extractLsb' 24 8, w.extractLsb' 16 8, w.extractLsb' 8 8, w.extractLsb' 0 8]

/-- The decoder on bytes, lowest address first. -/
def decodeBytes : List Byte → Except DecodeError Instr
  | [b0, b1, b2, b3] => decode (b0 ++ b1 ++ b2 ++ b3)
  | _ => .error .notOneWord

/-- The instruction read from a table row's word `w`: an instruction is one 32-bit word (R140), so `nbits`
is 32 for every row and the bits above `nbits` are 0. -/
def decodeTableWord (nbits w : Nat) : Option Instr :=
  match decodeBytes (wordBytes (BitVec.ofNat 32 (w % 2 ^ nbits))) with
  | .ok i => some i
  | .error _ => none

end Sys2Proof
end

