-- ==== Sys2Proof/Config.lean ====
section
/-! DEFINITION. Config.lean: what an implementation fixes, and the free values.
The constants are those of 00_scope R4. The opaque constants have no body: nothing can be proved of their
values, so a statement holds whatever they are. -/

namespace Sys2Proof.Machine

/-! ### The bus as a parameter (20_memory R81, 93 F) -/

/-- What stands behind the bus at a physical address (20_memory R81, 93 U25). -/
inductive BusKind where
  /-- ordinary memory: a read gives what was last written -/
  | ram
  /-- read as memory; a write is lost -/
  | rom
  /-- a device register: the platform answers a read and accepts a write -/
  | device
  /-- nothing decodes the address: a read gives any value, a write has no effect -/
  | undecoded
  deriving DecidableEq, Repr

/-- The physical addresses from `first` to `last` and what stands there. -/
structure BusRegion where
  first : BitVec 32
  last : BitVec 32
  kind : BusKind
  deriving DecidableEq, Repr

/-- One access the platform saw outside memory: `bytes` at `pa`, the value written or answered. -/
structure BusAccess where
  write : Bool
  pa : BitVec 32
  bytes : Nat
  value : BitVec 64
  deriving DecidableEq, Repr

end Sys2Proof.Machine

namespace Sys2Proof

/-- PRId (10_state R46). -/
def Config.prid : Word := 0x00000B22#32

/-- FCR0 (10_state R28). -/
def Config.fcr0 : Word := 0x00000A00#32

/-- The bits OR-ed into every value written to Config (10_state R47). -/
def Config.configFixed : Word := 0x7006E460#32

/-- The writable bits of Config (10_state R47). -/
def Config.configMask : Word := 0x0F00800F#32

/-- The parameter RESERVED_CP0_READ: what a read of a reserved CP0 register number returns (10_state R53,
45_cp0 R370, 93 U7). A free value (log 5). -/
opaque Config.reservedCp0Read : Dword

/-- The values Random takes where the spec does not fix them: under another RANDOM_POLICY than the default,
and when Wired > 31 (10_state R34, 93 U9). A free value for each draw (log 4). -/
opaque Config.freeRandom : Nat → BitVec 6

/-- The oracle that answers the reads outside memory: after so many steps and these accesses (newest first), at
this address, of this many bytes. A free value for each read (log 8). -/
opaque Config.busAnswer : Nat → List Machine.BusAccess → BitVec 32 → Nat → Dword

/-- What a byte of memory that nothing has written reads as: 0, the convention of 95_test_vectors section 0
(DESIGN CHOICE, unsafe, log 2). -/
def Config.unwrittenByte : Byte := 0#8

end Sys2Proof
end

