-- ==== Sys2Proof/Machine/State.lean ====
section
/-! DEFINITION. Machine/State.lean: the state of the machine as plain data, the reasons it stops, and the
state after reset. Every field is a piece of state of 10_state (or a port or parameter of the spec kept as
data); INVENTORY.md lists each with its rule and its reset value. -/

namespace Sys2Proof.Machine

/-- Physical memory behind the bus (20_memory R80, R81): the bytes at 32-bit physical addresses that differ
from what an unwritten byte reads as, addresses strictly rising (`Memory.wf` in Machine/Ops.lean). -/
abbrev Memory := List Host.Cell

/-- One page of a TLB entry: the fields of an entryLo without its G bit (10_state R55). -/
structure TlbPage where
  pfn : BitVec 24
  c : BitVec 3
  d : Bool
  v : Bool
  deriving DecidableEq, Repr

/-- One TLB entry (10_state R55): a pair of pages. -/
structure TlbEntry where
  initialized : Bool
  mask : BitVec 12
  r : BitVec 2
  vpn2 : BitVec 27
  asid : BitVec 8
  global : Bool
  lo0 : TlbPage
  lo1 : TlbPage
  deriving DecidableEq, Repr

/-- The open parameter RANDOM_POLICY (10_state R34, 00_scope R4). -/
inductive RandomPolicy where
  /-- the spec's default: Random counts down from 31 to Wired and starts again -/
  | decrement
  /-- any other policy: each step draws a free value between Wired and 31 -/
  | arbitrary
  deriving DecidableEq, Repr

/-- The registers of coprocessor 0 (10_state R32 to R52). Registers 26 to 29 are those of R51; the reserved
numbers of R53 have no storage. -/
structure Cp0 where
  /-- Index (0), R33 -/
  index : Word
  /-- Random (1), bits 5:0, R34 -/
  random : BitVec 6
  /-- EntryLo0 (2), R35 -/
  entryLo0 : Dword
  /-- EntryLo1 (3), R35 -/
  entryLo1 : Dword
  /-- Context (4), R36 -/
  context : Dword
  /-- PageMask (5), R37 -/
  pageMask : Word
  /-- Wired (6), R38 -/
  wired : Word
  /-- BadVAddr (8), R39 -/
  badVAddr : Dword
  /-- the 33-bit counter; Count (9) is its bits 32:1, R40 -/
  cnt33 : BitVec 33
  /-- EntryHi (10), R41 -/
  entryHi : Dword
  /-- Compare (11), R42 -/
  compare : Word
  /-- Status (12), R43 -/
  status : Word
  /-- Cause (13), R44 -/
  cause : Word
  /-- EPC (14), R45 -/
  epc : Dword
  /-- PRId (15), read-only, R46 -/
  prid : Word
  /-- Config (16), R47 -/
  config : Word
  /-- LLAddr (17), R48 -/
  llAddr : Word
  /-- WatchLo (18), R49 -/
  watchLo : Word
  /-- WatchHi (19), R49 -/
  watchHi : Word
  /-- XContext (20), R50 -/
  xContext : Dword
  /-- Parity Error (26), R51 -/
  parityError : Word
  /-- Cache Error (27), R51 -/
  cacheError : Word
  /-- TagLo (28), R51 -/
  tagLo : Word
  /-- TagHi (29), R51 -/
  tagHi : Word
  /-- ErrorEPC (30), R52 -/
  errorEpc : Dword
  deriving DecidableEq, Repr

/-- The whole state between two steps (10_state). -/
structure State where
  /-- the general registers, R20 (cell 0 is never written and never read: x[0] is hard-wired) -/
  gpr : Vector Dword 32
  /-- HI, R26 -/
  hi : Dword
  /-- LO, R26 -/
  lo : Dword
  /-- the address of the next instruction to execute, R22 -/
  pc : Dword
  /-- the address of the one after it, R22 -/
  nextPc : Dword
  /-- the address of the instruction being executed (`cur`), R22 -/
  prevPc : Dword
  /-- the pending-branch flag, R23 -/
  branchPending : Bool
  /-- the instruction now executing is in a delay slot, R23 -/
  inDelaySlot : Bool
  /-- the load-linked reservation, R30 -/
  llbit : Bool
  /-- the floating-point registers, R27 -/
  fpr : Vector Dword 32
  /-- FCR0, read-only, R28 -/
  fcr0 : Word
  /-- FCR31, R29 -/
  fcr31 : Word
  /-- coprocessor 0, R32 -/
  cp0 : Cp0
  /-- the TLB, R55 -/
  tlb : Vector TlbEntry 32
  /-- the memory behind the bus, RAM and ROM, 20_memory R81 -/
  mem : Memory
  /-- the platform's map of the bus, a parameter (20_memory R81, log 8): the first region that covers an address
  says what stands there; an address no region covers is RAM -/
  busMap : List BusRegion
  /-- MODEL: the accesses the platform saw outside memory, newest first (log 8) -/
  busTrace : List BusAccess
  /-- the level of the input lines ext_int[4:0], 60_exceptions R505 -/
  extInt : BitVec 5
  /-- MODEL: the levels the platform drives at the next samplings, oldest first (log 6) -/
  extIntNext : List (BitVec 5)
  /-- MODEL: the open parameter COUNT_INC (60_exceptions R526, log 3) -/
  countInc : Nat
  /-- MODEL: the open parameter RANDOM_POLICY (10_state R34, log 4) -/
  randomPolicy : RandomPolicy
  /-- MODEL: how many free values have been drawn (log 4) -/
  freeIx : Nat
  deriving DecidableEq, Repr

/-- Why the machine stops with a fault: never. A step commits, takes an exception or is refused (00_scope R11), and
an exception is a next state (60_exceptions R500). -/
inductive Fault where
  deriving DecidableEq, Repr

/-- Why an instruction is refused: outcome (c) of 00_scope R11, only where 93 section E lists it. -/
inductive Refusal where
  /-- Raised by an arm of `exec` whose instruction has no meaning yet. Safe. -/
  | notModelled (mnemonic : String)
  /-- Raised by the step, before anything else, when Status has EXL = 0, ERL = 0 and KSU = 3: no mode is
  defined and the model does not step (10_state R54, 93 U8). Safe. -/
  | noMode
  /-- Raised by COP2 with Status.CU2 = 1: coprocessor 2 is not described (44_trap_system R356, U5). Safe. -/
  | cop2Undescribed
  /-- Raised by CFC1 and CTC1 on an FP control register other than 0 and 31 (46_fpu_move R404, R407, U6).
  Safe. -/
  | noFpControlRegister (fs : BitVec 5)
  /-- Raised by TLBR and TLBWI when Index[5:0] names none of the 32 entries (45_cp0 R376, R377, U11), and by
  TLBWR when Random does (never with Wired <= 31 in a state a run reaches). Safe. -/
  | noTlbEntry (index : BitVec 6)
  /-- Raised by TLBWR when Wired[5:0] > 31, which leaves Random no range (45_cp0 R378, U9). Safe. -/
  | noRandomRange
  deriving DecidableEq, Repr

/-- The result of a meaning and of a step. -/
abbrev Result := Host.Outcome State Fault Refusal

/-- A TLB entry as the machine starts with it: not initialized, so it never matches (10_state R59). The
fields the spec leaves unspecified are 0 (DESIGN CHOICE, unsafe, log 1). -/
def TlbEntry.atReset : TlbEntry where
  initialized := false
  mask := 0#12
  r := 0#2
  vpn2 := 0#27
  asid := 0#8
  global := false
  lo0 := { pfn := 0#24, c := 0#3, d := false, v := false }
  lo1 := { pfn := 0#24, c := 0#3, d := false, v := false }

/-- Coprocessor 0 at reset (10_state R59). Registers the spec leaves unspecified are 0 (DESIGN CHOICE,
unsafe, log 1). -/
def Cp0.atReset : Cp0 where
  index := 0#32
  random := 31#6
  entryLo0 := 0#64
  entryLo1 := 0#64
  context := 0#64
  pageMask := 0#32
  wired := 0#32
  badVAddr := 0#64
  cnt33 := 0#33
  entryHi := 0#64
  compare := 0#32
  status := 0x00400004#32
  cause := 0x00000000#32
  epc := 0#64
  prid := Config.prid
  config := 0x7006E463#32
  llAddr := 0#32
  watchLo := 0#32
  watchHi := 0#32
  xContext := 0#64
  parityError := 0#32
  cacheError := 0#32
  tagLo := 0#32
  tagHi := 0#32
  errorEpc := 0#64

/-- The machine right after reset (10_state R59, 70_reset_and_hazards R560). Registers the spec leaves
unspecified are 0 (DESIGN CHOICE, unsafe, log 1); the parameters have the spec's defaults (logs 3, 4), the
input lines are low (log 6) and all of the bus is RAM (log 8). -/
def State.reset : State where
  gpr := Vector.replicate 32 0#64
  hi := 0#64
  lo := 0#64
  pc := 0xFFFFFFFFBFC00000#64
  nextPc := 0xFFFFFFFFBFC00004#64
  prevPc := 0xFFFFFFFFBFC00000#64
  branchPending := false
  inDelaySlot := false
  llbit := false
  fpr := Vector.replicate 32 0#64
  fcr0 := Config.fcr0
  fcr31 := 0x00000000#32
  cp0 := Cp0.atReset
  tlb := Vector.replicate 32 TlbEntry.atReset
  mem := []
  busMap := []
  busTrace := []
  extInt := 0#5
  extIntNext := []
  countInc := 1
  randomPolicy := .decrement
  freeIx := 0

end Sys2Proof.Machine
end

