-- ==== Sys2Proof/Machine/Ops.lean ====
section
/-! DEFINITION. Machine/Ops.lean: the named operations over memory and registers: bit helpers, physical
memory, the general registers, Status and the mode it derives, the CP0 registers, taking an exception and
returning from one, the handler checks, the delay-slot controller. -/

namespace Sys2Proof.Machine

/-! ### Bit helpers (00_scope R5, R7) -/

/-- `sext_64` (R7). -/
def sext64 {n : Nat} (v : BitVec n) : Dword := v.signExtend 64

/-- `zext_64` (R7). -/
def zext64 {n : Nat} (v : BitVec n) : Dword := v.setWidth 64

/-- `v[31:0]` (R5). -/
def lo32 (v : Dword) : Word := v.extractLsb' 0 32

/-- `v[63:32]` (R5). -/
def hi32 (v : Dword) : Word := v.extractLsb' 32 32

/-! ### Physical memory, as RAM and ROM hold it (20_memory R80 to R82) -/

/-- The byte at an address; an unlisted address reads as Config.unwrittenByte (log 2). -/
def Memory.read (m : Memory) (a : Nat) : Byte :=
  match m with
  | [] => Config.unwrittenByte
  | (k, b) :: rest => if k = a then b else Memory.read rest a

/-- Put a byte at an address, keeping the canonical form: addresses rise, and a byte equal to what an unlisted
address reads as is not listed. -/
def Memory.write (m : Memory) (a : Nat) (v : Byte) : Memory :=
  match m with
  | [] => if v = Config.unwrittenByte then [] else [(a, v)]
  | (k, b) :: rest =>
    if a < k then (if v = Config.unwrittenByte then (k, b) :: rest else (a, v) :: (k, b) :: rest)
    else if a = k then (if v = Config.unwrittenByte then rest else (a, v) :: rest)
    else (k, b) :: Memory.write rest a v

/-- The canonical form from an address on: every listed address is at least `from_` and below 2^32, addresses
strictly rise, no listed byte is the unwritten one. -/
def Memory.wfFrom (from_ : Nat) : Memory → Bool
  | [] => true
  | (k, b) :: rest =>
    decide (from_ ≤ k) && decide (k < 2 ^ 32) && b != Config.unwrittenByte && Memory.wfFrom (k + 1) rest

/-- The canonical form of the memory: the physical addresses are the 32-bit ones (R80). -/
def Memory.wf (m : Memory) : Bool := Memory.wfFrom 0 m

/-- The byte at a physical address. -/
def Memory.read8 (m : Memory) (pa : Word) : Byte := Memory.read m pa.toNat

/-- The halfword at a physical address: the lowest address is most significant (R82). -/
def Memory.read16 (m : Memory) (pa : Word) : Half := Memory.read8 m pa ++ Memory.read8 m (pa + 1#32)

/-- The word at a physical address (R82). -/
def Memory.read32 (m : Memory) (pa : Word) : Word := Memory.read16 m pa ++ Memory.read16 m (pa + 2#32)

/-- The doubleword at a physical address (R82). -/
def Memory.read64 (m : Memory) (pa : Word) : Dword := Memory.read32 m pa ++ Memory.read32 m (pa + 4#32)

/-- Write a byte. -/
def Memory.write8 (m : Memory) (pa : Word) (v : Byte) : Memory := Memory.write m pa.toNat v

/-- Write a halfword: the high byte goes to the lowest address (R82). -/
def Memory.write16 (m : Memory) (pa : Word) (v : Half) : Memory :=
  Memory.write8 (Memory.write8 m pa (v.extractLsb' 8 8)) (pa + 1#32) (v.extractLsb' 0 8)

/-- Write a word (R82). -/
def Memory.write32 (m : Memory) (pa : Word) (v : Word) : Memory :=
  Memory.write16 (Memory.write16 m pa (v.extractLsb' 16 16)) (pa + 2#32) (v.extractLsb' 0 16)

/-- Write a doubleword (R82). -/
def Memory.write64 (m : Memory) (pa : Word) (v : Dword) : Memory :=
  Memory.write32 (Memory.write32 m pa (v.extractLsb' 32 32)) (pa + 4#32) (v.extractLsb' 0 32)

/-! ### General registers, HI, LO, and the plain updates -/

/-- Read x[r]; x[0] is hard-wired to 0 (10_state R20). -/
def State.x (s : State) (r : Reg) : Dword := if r = 0#5 then 0#64 else s.gpr[r.toNat]'r.isLt

/-- Write x[r]; a write to x[0] is discarded (10_state R20). -/
def State.setX (s : State) (r : Reg) (v : Dword) : State :=
  if r = 0#5 then s else { s with gpr := s.gpr.set r.toNat v r.isLt }

/-- Write `hi` and `lo` (10_state R26). -/
def State.setHiLo (s : State) (hi lo : Dword) : State := { s with hi := hi, lo := lo }

/-- Replace the memory. -/
def State.setMem (s : State) (m : Memory) : State := { s with mem := m }

/-- Replace coprocessor 0. -/
def State.setCp0 (s : State) (c : Cp0) : State := { s with cp0 := c }

/-- Replace FCR31. -/
def State.setFcr31 (s : State) (f : Word) : State := { s with fcr31 := f }

/-- Replace an FPR cell (the views of 46_fpu_move R401 are in Machine/Operands.lean). -/
def State.setFpr (s : State) (i : BitVec 5) (v : Dword) : State :=
  { s with fpr := s.fpr.set i.toNat v i.isLt }

/-- Replace a TLB entry. -/
def State.setTlb (s : State) (i : Fin 32) (e : TlbEntry) : State :=
  { s with tlb := s.tlb.set i.val e i.isLt }

/-! ### The bus (20_memory R81, R86) -/

/-- Does a region cover a physical address? -/
def BusRegion.covers (r : BusRegion) (pa : Word) : Bool := decide (r.first ≤ pa) && decide (pa ≤ r.last)

/-- What stands at a physical address: RAM where the map says nothing (log 8). -/
def State.busKind (s : State) (pa : Word) : BusKind :=
  match s.busMap.find? fun r => r.covers pa with
  | some r => r.kind
  | none => .ram

/-- RAM and ROM. -/
def BusKind.isMemory : BusKind → Bool
  | .ram => true
  | .rom => true
  | .device => false
  | .undecoded => false

/-- Memory as far as a read of a physical address is concerned. -/
def State.isMemory (s : State) (pa : Word) : Bool := (s.busKind pa).isMemory

/-- The platform's answer to a read of `n` bytes outside memory (R81, 93 U25). -/
def State.busAnswer (s : State) (pa : Word) (n : Nat) : Dword :=
  zext64 ((Config.busAnswer s.freeIx s.busTrace pa n).setWidth (8 * n))

/-- The platform sees an access outside memory. -/
def State.traced (s : State) (a : BusAccess) : State := { s with busTrace := a :: s.busTrace }

/-- The state after `BusRead(pa, n)`: the platform sees a read outside memory, which may have side effects there
(R86). -/
def State.afterRead (s : State) (pa : Word) (n : Nat) : State :=
  if s.isMemory pa then s
  else s.traced { write := false, pa := pa, bytes := n, value := s.busAnswer pa n }

/-- `BusRead(pa, 1)`. -/
def State.bus8 (s : State) (pa : Word) : Byte :=
  if s.isMemory pa then s.mem.read8 pa else (s.busAnswer pa 1).setWidth 8

/-- `BusRead(pa, 2)`. -/
def State.bus16 (s : State) (pa : Word) : Half :=
  if s.isMemory pa then s.mem.read16 pa else (s.busAnswer pa 2).setWidth 16

/-- `BusRead(pa, 4)`. -/
def State.bus32 (s : State) (pa : Word) : Word :=
  if s.isMemory pa then s.mem.read32 pa else (s.busAnswer pa 4).setWidth 32

/-- `BusRead(pa, 8)`. -/
def State.bus64 (s : State) (pa : Word) : Dword :=
  if s.isMemory pa then s.mem.read64 pa else s.busAnswer pa 8

/-- `BusWrite(pa, n, v)`, `m` the memory with `v` written: RAM takes it, a device is given it, elsewhere it is
lost. -/
def State.busWrite (s : State) (pa : Word) (n : Nat) (v : Dword) (m : Memory) : State :=
  match s.busKind pa with
  | .ram => s.setMem m
  | .rom => s
  | .device => s.traced { write := true, pa := pa, bytes := n, value := v }
  | .undecoded => s

/-- `BusWrite(pa, 1, v)`. -/
def State.busWrite8 (s : State) (pa : Word) (v : Byte) : State := s.busWrite pa 1 (zext64 v) (s.mem.write8 pa v)

/-- `BusWrite(pa, 2, v)`. -/
def State.busWrite16 (s : State) (pa : Word) (v : Half) : State := s.busWrite pa 2 (zext64 v) (s.mem.write16 pa v)

/-- `BusWrite(pa, 4, v)`. -/
def State.busWrite32 (s : State) (pa : Word) (v : Word) : State := s.busWrite pa 4 (zext64 v) (s.mem.write32 pa v)

/-- `BusWrite(pa, 8, v)`. -/
def State.busWrite64 (s : State) (pa : Word) (v : Dword) : State := s.busWrite pa 8 v (s.mem.write64 pa v)

/-! ### Status and Cause (10_state R43, R44) -/

/-- Status.IE. -/
def State.ie (s : State) : Bool := s.cp0.status.getLsbD 0
/-- Status.EXL. -/
def State.exl (s : State) : Bool := s.cp0.status.getLsbD 1
/-- Status.ERL. -/
def State.erl (s : State) : Bool := s.cp0.status.getLsbD 2
/-- Status.KSU. -/
def State.ksu (s : State) : BitVec 2 := s.cp0.status.extractLsb' 3 2
/-- Status.UX. -/
def State.ux (s : State) : Bool := s.cp0.status.getLsbD 5
/-- Status.SX. -/
def State.sx (s : State) : Bool := s.cp0.status.getLsbD 6
/-- Status.KX. -/
def State.kx (s : State) : Bool := s.cp0.status.getLsbD 7
/-- Status.IM[7:0]. -/
def State.im (s : State) : BitVec 8 := s.cp0.status.extractLsb' 8 8
/-- Status.BEV. -/
def State.bev (s : State) : Bool := s.cp0.status.getLsbD 22
/-- Status.FR. -/
def State.fr (s : State) : Bool := s.cp0.status.getLsbD 26
/-- Status.CU0. -/
def State.cu0 (s : State) : Bool := s.cp0.status.getLsbD 28
/-- Status.CU1. -/
def State.cu1 (s : State) : Bool := s.cp0.status.getLsbD 29
/-- Status.CU2. -/
def State.cu2 (s : State) : Bool := s.cp0.status.getLsbD 30
/-- Cause.IP[7:0]. -/
def State.ip (s : State) : BitVec 8 := s.cp0.cause.extractLsb' 8 8
/-- EntryHi.ASID (10_state R41). -/
def State.asid (s : State) : BitVec 8 := s.cp0.entryHi.extractLsb' 0 8

/-- `interrupts_pending`, computed at each use (10_state R31). -/
def State.interruptsPending (s : State) : BitVec 8 := s.ip &&& s.im

/-- The mode Status derives (10_state R54). -/
inductive Mode where
  | kernel
  | supervisor
  | user
  /-- EXL = 0, ERL = 0 and KSU = 3: none of the three modes holds (93 U8). -/
  | undefined
  deriving DecidableEq, Repr

/-- The mode flags (10_state R54). -/
def State.mode (s : State) : Mode :=
  if s.exl || s.erl || s.ksu == 0#2 then .kernel
  else if s.ksu == 1#2 then .supervisor
  else if s.ksu == 2#2 then .user
  else .undefined

/-- `kernel_mode` (10_state R54). -/
def State.kernelMode (s : State) : Bool := s.mode == .kernel

/-- `addr64` (10_state R54). -/
def State.addr64 (s : State) : Bool :=
  match s.mode with
  | .kernel => s.kx
  | .supervisor => s.sx
  | .user => s.ux
  | .undefined => false

/-- `ops64` (10_state R54). -/
def State.ops64 (s : State) : Bool :=
  match s.mode with
  | .kernel => true
  | .supervisor => s.sx
  | .user => s.ux
  | .undefined => false

/-! ### CP0 register access (45_cp0 R370, R375) -/

/-- Count, bits 32:1 of the 33-bit counter (10_state R40). -/
def Cp0.count (c : Cp0) : Word := c.cnt33.extractLsb' 1 32

/-- `ReadCP0(n)` (45_cp0 R370); a reserved number reads as the parameter RESERVED_CP0_READ (log 5). -/
def Cp0.read (c : Cp0) (n : BitVec 5) : Dword :=
  match n with
  | 0#5 => sext64 c.index
  | 1#5 => zext64 c.random
  | 2#5 => c.entryLo0
  | 3#5 => c.entryLo1
  | 4#5 => c.context
  | 5#5 => sext64 c.pageMask
  | 6#5 => sext64 c.wired
  | 8#5 => c.badVAddr
  | 9#5 => sext64 c.count
  | 10#5 => c.entryHi
  | 11#5 => sext64 c.compare
  | 12#5 => sext64 c.status
  | 13#5 => sext64 c.cause
  | 14#5 => c.epc
  | 15#5 => sext64 c.prid
  | 16#5 => sext64 c.config
  | 17#5 => sext64 c.llAddr
  | 18#5 => sext64 c.watchLo
  | 19#5 => sext64 c.watchHi
  | 20#5 => c.xContext
  | 26#5 => sext64 c.parityError
  | 27#5 => sext64 c.cacheError
  | 28#5 => sext64 c.tagLo
  | 29#5 => sext64 c.tagHi
  | 30#5 => c.errorEpc
  | _ => Config.reservedCp0Read

/-- `WriteCP0(n, v)` (45_cp0 R375): bits outside each mask are dropped; Random, BadVAddr, PRId, Cache Error,
TagHi and the reserved numbers ignore the write. -/
def Cp0.write (c : Cp0) (n : BitVec 5) (v : Dword) : Cp0 :=
  match n with
  | 0#5 => { c with index := lo32 v &&& 0x8000003F#32 }
  | 2#5 => { c with entryLo0 := v &&& 0x000000003FFFFFFF#64 }
  | 3#5 => { c with entryLo1 := v &&& 0x000000003FFFFFFF#64 }
  | 4#5 => { c with context := (v &&& 0xFFFFFFFFFF800000#64) ||| (c.context &&& 0x00000000007FFFF0#64) }
  | 5#5 => { c with pageMask := lo32 v &&& 0x01FFE000#32 }
  | 6#5 => { c with wired := lo32 v &&& 0x0000003F#32, random := 31#6 }
  | 9#5 => { c with cnt33 := lo32 v ++ 0#1 }
  | 10#5 => { c with entryHi := v &&& 0xC00000FFFFFFE0FF#64 }
  | 11#5 => { c with compare := lo32 v, cause := c.cause &&& ~~~0x00008000#32 }
  | 12#5 => { c with status := lo32 v &&& 0xFF57FFFF#32 }
  | 13#5 => { c with cause := (c.cause &&& ~~~0x00000300#32) ||| (lo32 v &&& 0x00000300#32) }
  | 14#5 => { c with epc := v }
  | 16#5 => { c with config := (lo32 v &&& Config.configMask) ||| Config.configFixed }
  | 17#5 => { c with llAddr := lo32 v }
  | 18#5 => { c with watchLo := lo32 v &&& 0xFFFFFFFB#32 }
  | 19#5 => { c with watchHi := lo32 v &&& 0x0000000F#32 }
  | 20#5 => { c with xContext := (v &&& 0xFFFFFFFE00000000#64) ||| (c.xContext &&& 0x00000001FFFFFFF0#64) }
  | 26#5 => { c with parityError := lo32 v &&& 0x000000FF#32 }
  | 28#5 => { c with tagLo := lo32 v &&& 0x0FFFFFC0#32 }
  | 30#5 => { c with errorEpc := v }
  | _ => c

/-! ### Taking an exception (60_exceptions R501 to R503) and returning from one (45_cp0 R380) -/

/-- The exceptions of 60_exceptions R501 that the core raises; IBE, DBE and WATCH are never raised (R520, R521). -/
inductive Exc where
  | int
  | mod
  /-- fetch or load; `miss` is the translator's TLB_MISS class -/
  | tlbl (miss : Bool)
  /-- store; `miss` is the translator's TLB_MISS class -/
  | tlbs (miss : Bool)
  | adel
  | ades
  | sys
  | bp
  | ri
  | cpu (n : BitVec 2)
  | ov
  | tr
  | fpe
  deriving DecidableEq, Repr

/-- Cause.ExcCode of an exception (R501). -/
def Exc.code : Exc → BitVec 5
  | .int => 0#5
  | .mod => 1#5
  | .tlbl _ => 2#5
  | .tlbs _ => 3#5
  | .adel => 4#5
  | .ades => 5#5
  | .sys => 8#5
  | .bp => 9#5
  | .ri => 10#5
  | .cpu _ => 11#5
  | .ov => 12#5
  | .tr => 13#5
  | .fpe => 15#5

/-- The coprocessor number an exception carries: CpU its own, FPE 0, every other none (R501, R502). -/
def Exc.ce : Exc → Option (BitVec 2)
  | .cpu n => some n
  | .fpe => some 0#2
  | _ => none

/-- Is the cause the translator's TLB_MISS class (R502)? -/
def Exc.isMiss : Exc → Bool
  | .tlbl m => m
  | .tlbs m => m
  | _ => false

/-- The faulting pc: the instruction, or the branch before it when it is in a delay slot (R502 line 1). -/
def State.faultingPc (s : State) : Dword := if s.inDelaySlot then s.prevPc - 4#64 else s.prevPc

/-- Cause after an exception (R502 lines 1 and 3): BD set in a delay slot, else cleared if EXL was clear;
ExcCode; CE only if the exception carries a coprocessor number. -/
def State.causeAfter (s : State) (e : Exc) : Word :=
  let bd := if s.inDelaySlot then s.cp0.cause ||| 0x80000000#32
    else if s.exl then s.cp0.cause else s.cp0.cause &&& ~~~0x80000000#32
  let coded := (bd &&& ~~~0x0000007C#32) ||| (e.code.setWidth 32 <<< 2)
  match e.ce with
  | some n => (coded &&& ~~~0x30000000#32) ||| (n.setWidth 32 <<< 28)
  | none => coded

/-- The vector (R502 line 4, R503): the refill vector of the addressing width for a TLB miss taken with EXL
clear, else the general vector. -/
def State.vector (s : State) (e : Exc) : Dword :=
  let base := if s.bev then 0xFFFFFFFFBFC00200#64 else 0xFFFFFFFF80000000#64
  let offset := if e.isMiss && !s.exl then (if s.addr64 then 0x080#64 else 0x000#64) else 0x180#64
  base + offset

/-- `Dispatch` (R502): the one operation that takes an exception. `s` is the state in which it is raised, before
EXL is set, so `addr64` is that of the failing translation (R503, 92 D54). -/
def State.takeException (s : State) (e : Exc) : State :=
  { s with
    cp0 := { s.cp0 with
      cause := s.causeAfter e
      epc := if s.exl then s.cp0.epc else s.faultingPc
      status := s.cp0.status ||| 0x00000002#32 }
    branchPending := false
    pc := s.vector e
    nextPc := s.vector e + 4#64
    inDelaySlot := false }

/-- `raise E` (00_scope R9): the instruction ends and the exception is taken. -/
def State.raise (s : State) (e : Exc) : Result := .next (s.takeException e)

/-- `RecordFaultAddress(va)` (20_memory R99). -/
def State.recordFaultAddress (s : State) (va : Dword) : State :=
  { s with cp0 := { s.cp0 with
      badVAddr := va
      context := (s.cp0.context &&& ~~~0x00000000007FFFF0#64) ||| (zext64 (va.extractLsb' 13 19) <<< 4)
      xContext := (s.cp0.xContext &&& ~~~0x00000001FFFFFFF0#64) ||| (zext64 (va.extractLsb' 13 27) <<< 4)
        ||| (zext64 (va.extractLsb' 62 2) <<< 31)
      entryHi := (s.cp0.entryHi &&& ~~~0xC00000FFFFFFE000#64) ||| (zext64 (va.extractLsb' 13 27) <<< 13)
        ||| (zext64 (va.extractLsb' 62 2) <<< 62) } }

/-- Record the failing address, then take the exception (20_memory R85, R94). -/
def State.raiseAt (s : State) (va : Dword) (e : Exc) : Result := (s.recordFaultAddress va).raise e

/-- ERET's effect (45_cp0 R380): through ErrorEPC when ERL is set, else through EPC; the latch it came through
is cleared, the pending branch and the reservation are discarded. -/
def State.returnFromException (s : State) : State :=
  let target := if s.erl then s.cp0.errorEpc else s.cp0.epc
  let status := if s.erl then s.cp0.status &&& ~~~0x00000004#32 else s.cp0.status &&& ~~~0x00000002#32
  { s with
    cp0 := { s.cp0 with status := status }
    pc := target
    nextPc := target + 4#64
    branchPending := false
    llbit := false }

/-! ### The checks a handler makes first (30_encoding R160, R161) -/

/-- `Check64()` (R160). -/
def State.check64 (s : State) (k : Result) : Result := if s.ops64 then k else s.raise .ri

/-- `CheckCop0()` (R161). -/
def State.checkCop0 (s : State) (k : Result) : Result :=
  if s.kernelMode || s.cu0 then k else s.raise (.cpu 0#2)

/-- `CheckCop1()` (R161). -/
def State.checkCop1 (s : State) (k : Result) : Result := if s.cu1 then k else s.raise (.cpu 1#2)

/-- `CheckCop2()` (R161). -/
def State.checkCop2 (s : State) (k : Result) : Result := if s.cu2 then k else s.raise (.cpu 2#2)

/-! ### The delay-slot controller (42_branch_jump R250, R251) -/

/-- `Branch(taken, t)` (R250). -/
def State.branch (s : State) (taken : Bool) (t : Dword) : State :=
  { s with branchPending := true, nextPc := if taken then t else s.nextPc }

/-- `BranchLikely(taken, t)` (R251): a false condition skips the delay slot. -/
def State.branchLikely (s : State) (taken : Bool) (t : Dword) : State :=
  if taken then s.branch true t else { s with pc := s.nextPc, nextPc := s.nextPc + 4#64 }

end Sys2Proof.Machine
end

