-- ==== Sys2Proof/Machine/Flags.lean ====
section
/-! DEFINITION. Machine/Flags.lean: every flag computation of the spec. The integer unit has no flags
(10_state R57), only the overflow test of the checked forms (40_integer_alu R210); the FPU has the cause,
enable and flag bits of FCR31, the compare bit and the rounding mode (10_state R29, 47_fpu_arith R431, R432). -/

namespace Sys2Proof.Machine

/-! ### Signed overflow (40_integer_alu R210 d) -/

/-- Overflow of an addition: the operands have one sign bit and the sum the other. -/
def addOverflows {n : Nat} (a b : BitVec n) : Bool := a.msb == b.msb && (a + b).msb != a.msb

/-- Overflow of a subtraction: the operands' sign bits differ and the difference's differs from the first's. -/
def subOverflows {n : Nat} (a b : BitVec n) : Bool := a.msb != b.msb && (a - b).msb != a.msb

/-! ### FCR31 (10_state R29) -/

/-- A set of the six FP causes, in the order of FCR31 bits 17:12: E V Z O U I (47_fpu_arith R432). -/
abbrev FpExc := BitVec 6

/-- Cause E, unimplemented operation. -/
def fpE : FpExc := 0b100000#6
/-- Cause V, invalid operation. -/
def fpV : FpExc := 0b010000#6
/-- Cause Z, division by zero. -/
def fpZ : FpExc := 0b001000#6
/-- Causes O and I: overflow, which is inexact (47_fpu_arith R434). -/
def fpOI : FpExc := 0b000101#6
/-- Causes U and I: an underflow that is flushed (47_fpu_arith R434). -/
def fpUI : FpExc := 0b000011#6
/-- Cause I, inexact. -/
def fpI : FpExc := 0b000001#6
/-- No cause. -/
def fpNone : FpExc := 0b000000#6

/-- The rounding modes (47_fpu_arith R431). -/
inductive Rounding where
  /-- to nearest, ties to even -/
  | rn
  /-- toward zero -/
  | rz
  /-- toward plus infinity -/
  | rp
  /-- toward minus infinity -/
  | rm
  deriving DecidableEq, Repr

/-- FCR31.RM (10_state R29). -/
def fcrRounding (f : Word) : Rounding :=
  match f.extractLsb' 0 2 with
  | 0#2 => .rn
  | 1#2 => .rz
  | 2#2 => .rp
  | _ => .rm

/-- FCR31.FS. -/
def fcrFS (f : Word) : Bool := f.getLsbD 24

/-- FCR31.C. -/
def fcrC (f : Word) : Bool := f.getLsbD 23

/-- FCR31.Enable, in the order V Z O U I. -/
def fcrEnable (f : Word) : BitVec 5 := f.extractLsb' 7 5

/-- FCR31.Cause, in the order E V Z O U I. -/
def fcrCause (f : Word) : FpExc := f.extractLsb' 12 6

/-- FCR31 with the six cause bits cleared (47_fpu_arith R432). -/
def fcrClearCause (f : Word) : Word := f &&& ~~~0x0003F000#32

/-- FCR31 with causes added. -/
def fcrAddCause (f : Word) (e : FpExc) : Word := f ||| (e.setWidth 32 <<< 12)

/-- FCR31 with flags added; E has no flag. -/
def fcrAddFlags (f : Word) (e : FpExc) : Word := f ||| ((e.extractLsb' 0 5).setWidth 32 <<< 2)

/-- FCR31 with the compare bit written (47_fpu_arith R456). -/
def fcrSetC (f : Word) (c : Bool) : Word :=
  if c then f ||| 0x00800000#32 else f &&& ~~~0x00800000#32

/-- Does a set of causes trap: E always does, another when its enable bit is set (47_fpu_arith R432)? -/
def fpTraps (f : Word) (e : FpExc) : Bool := e.getLsbD 5 || (e.extractLsb' 0 5 &&& fcrEnable f) != 0#5

/-- `Signal(S)` (47_fpu_arith R432): the causes are recorded; a trap leaves the flags and everything the
continuation would write. -/
def State.signal (s : State) (e : FpExc) (k : State → Result) : Result :=
  if fpTraps s.fcr31 e then (s.setFcr31 (fcrAddCause s.fcr31 e)).raise .fpe
  else k (s.setFcr31 (fcrAddFlags (fcrAddCause s.fcr31 e) e))

/-- The opening of `FpOp` and the signal (47_fpu_arith R432): CheckCop1, the cause bits cleared, then the
causes of the operation. -/
def State.fpSignal (s : State) (e : FpExc) (k : State → Result) : Result :=
  s.checkCop1 ((s.setFcr31 (fcrClearCause s.fcr31)).signal e k)

end Sys2Proof.Machine
end

