-- ==== Sys2Proof/Machine/Operands.lean ====
section
/-! DEFINITION. Machine/Operands.lean: every operand form (30_encoding R146), the byte merges of the unaligned
accesses (43_load_store R298 to R309), and the register views of the FPU (46_fpu_move R401). -/

namespace Sys2Proof.Machine

/-! ### Immediates, addresses and targets (R146) -/

/-- The arithmetic immediate, `sext_64(imm16)`. -/
def arithImm (imm : Imm16) : Dword := sext64 imm

/-- The logical immediate, `zext_64(imm16)`. -/
def logicImm (imm : Imm16) : Dword := zext64 imm

/-- The upper immediate, `sext_64(imm16 || 0^16)`. -/
def upperImm (imm : Imm16) : Dword := sext64 (imm ++ 0#16)

/-- The effective address, `x[base] + sext_64(imm16)` modulo 2^64 (43_load_store R290). -/
def State.effectiveAddress (s : State) (base : Reg) (imm : Imm16) : Dword := s.x base + sext64 imm

/-- The branch target, `cur + 4 + sext_64(imm16 || 0b00)` (42_branch_jump R252). -/
def State.branchTarget (s : State) (imm : Imm16) : Dword := s.prevPc + 4#64 + sext64 (imm ++ 0#2)

/-- The target of J and JAL, `(cur + 4)[63:28] || instr_index || 0b00` (42_branch_jump R252). -/
def State.jumpTarget (s : State) (idx : BitVec 26) : Dword :=
  (s.prevPc + 4#64).extractLsb' 28 36 ++ idx ++ 0#2

/-- The link value, `cur + 8` (42_branch_jump R252). -/
def State.linkValue (s : State) : Dword := s.prevPc + 8#64

/-- A variable shift amount of a 32-bit shift, `x[rs][4:0]`. -/
def State.shift5 (s : State) (rs : Reg) : Nat := ((s.x rs).extractLsb' 0 5).toNat

/-- A variable shift amount of a 64-bit shift, `x[rs][5:0]`. -/
def State.shift6 (s : State) (rs : Reg) : Nat := ((s.x rs).extractLsb' 0 6).toNat

/-! ### Byte merges of the unaligned accesses -/

/-- `va[1:0]`. -/
def wordOffset (va : Dword) : Nat := (va.extractLsb' 0 2).toNat

/-- `va[2:0]`. -/
def dwordOffset (va : Dword) : Nat := (va.extractLsb' 0 3).toNat

/-- `pa & ~3`. -/
def wordBase (pa : Word) : Word := pa &&& ~~~3#32

/-- `pa & ~7`. -/
def dwordBase (pa : Word) : Word := pa &&& ~~~7#32

/-- LWL and LDL: memory bytes from the offset on replace the high bytes of the register (R298, R300). -/
def loadLeft {n : Nat} (off : Nat) (reg mem : BitVec n) : BitVec n :=
  (reg &&& ~~~(BitVec.allOnes n <<< (8 * off))) ||| (mem <<< (8 * off))

/-- LWR and LDR: memory bytes up to the offset replace the low bytes of the register; `last` is the offset of
the container's last byte (R299, R301). -/
def loadRight {n : Nat} (last off : Nat) (reg mem : BitVec n) : BitVec n :=
  (reg &&& ~~~(BitVec.allOnes n >>> (8 * (last - off)))) ||| (mem >>> (8 * (last - off)))

/-- SWL and SDL: the high bytes of the register replace memory bytes from the offset on (R306, R308). -/
def storeLeft {n : Nat} (off : Nat) (reg mem : BitVec n) : BitVec n :=
  (mem &&& ~~~(BitVec.allOnes n >>> (8 * off))) ||| (reg >>> (8 * off))

/-- SWR and SDR: the low bytes of the register replace memory bytes up to the offset (R307, R309). -/
def storeRight {n : Nat} (last off : Nat) (reg mem : BitVec n) : BitVec n :=
  (mem &&& ~~~(BitVec.allOnes n <<< (8 * (last - off)))) ||| (reg <<< (8 * (last - off)))

/-! ### The register views of the FPU (46_fpu_move R401) -/

/-- The FPR cell a 64-bit access uses, and the cell that holds a 32-bit access: with FR = 0 the even one. -/
def State.fprCell (s : State) (i : FReg) : BitVec 5 := if s.fr then i else i &&& ~~~1#5

/-- Does a 32-bit access use the high half of its cell? Only an odd register with FR = 0. -/
def State.fprHigh (s : State) (i : FReg) : Bool := !s.fr && i.getLsbD 0

/-- `fgr64(i)`. -/
def State.fgr64 (s : State) (i : FReg) : Dword := s.fpr[(s.fprCell i).toNat]'(s.fprCell i).isLt

/-- `fgr64(i) <- v`. -/
def State.setFgr64 (s : State) (i : FReg) (v : Dword) : State := s.setFpr (s.fprCell i) v

/-- `fgr32(i)`. -/
def State.fgr32 (s : State) (i : FReg) : Word := if s.fprHigh i then hi32 (s.fgr64 i) else lo32 (s.fgr64 i)

/-- `fgr32(i) <- v`: the other half of the cell keeps its value. -/
def State.setFgr32 (s : State) (i : FReg) (v : Word) : State :=
  s.setFgr64 i (if s.fprHigh i then v ++ lo32 (s.fgr64 i) else hi32 (s.fgr64 i) ++ v)

end Sys2Proof.Machine
end

