-- ==== Sys2Proof/Machine/Alu.lean ====
section
/-! DEFINITION. Machine/Alu.lean: the meanings of integer arithmetic, logic, shifts (40_integer_alu R170 to R211).
Every meaning runs after line 4 of the step (10_state R24): `prevPc` is the instruction's own address. -/

namespace Sys2Proof.Machine

/-- The write of a checked operation: Ov leaves the destination unchanged (R210 d). -/
def State.checked (s : State) (overflow : Bool) (r : Reg) (v : Dword) : Result :=
  if overflow then s.raise .ov else .next (s.setX r v)

/-- The result of a comparison, 1 or 0. -/
def truth (b : Bool) : Dword := zext64 (BitVec.ofBool b)

/-- `nop` (R209): nothing; the pc has already advanced. -/
def execNop (s : State) : Result := .next s

/-- `add rd, rs, rt` (R170): 32-bit sum; Ov on signed overflow, rd then unchanged. -/
def execAdd (rd : Reg) (rs : Reg) (rt : Reg) (s : State) : Result :=
  s.checked (addOverflows (lo32 (s.x rs)) (lo32 (s.x rt))) rd (sext64 (lo32 (s.x rs) + lo32 (s.x rt)))

/-- `addu rd, rs, rt` (R171): 32-bit sum, wrapping. -/
def execAddu (rd : Reg) (rs : Reg) (rt : Reg) (s : State) : Result :=
  .next (s.setX rd (sext64 (lo32 (s.x rs) + lo32 (s.x rt))))

/-- `sub rd, rs, rt` (R172): 32-bit difference; Ov on signed overflow. -/
def execSub (rd : Reg) (rs : Reg) (rt : Reg) (s : State) : Result :=
  s.checked (subOverflows (lo32 (s.x rs)) (lo32 (s.x rt))) rd (sext64 (lo32 (s.x rs) - lo32 (s.x rt)))

/-- `subu rd, rs, rt` (R173): 32-bit difference, wrapping. -/
def execSubu (rd : Reg) (rs : Reg) (rt : Reg) (s : State) : Result :=
  .next (s.setX rd (sext64 (lo32 (s.x rs) - lo32 (s.x rt))))

/-- `and rd, rs, rt` (R174): bitwise and of 64 bits. -/
def execAnd (rd : Reg) (rs : Reg) (rt : Reg) (s : State) : Result := .next (s.setX rd (s.x rs &&& s.x rt))

/-- `or rd, rs, rt` (R175): bitwise or of 64 bits. -/
def execOr (rd : Reg) (rs : Reg) (rt : Reg) (s : State) : Result := .next (s.setX rd (s.x rs ||| s.x rt))

/-- `xor rd, rs, rt` (R176): bitwise exclusive or of 64 bits. -/
def execXor (rd : Reg) (rs : Reg) (rt : Reg) (s : State) : Result := .next (s.setX rd (s.x rs ^^^ s.x rt))

/-- `nor rd, rs, rt` (R177): complement of the bitwise or. -/
def execNor (rd : Reg) (rs : Reg) (rt : Reg) (s : State) : Result :=
  .next (s.setX rd (~~~(s.x rs ||| s.x rt)))

/-- `slt rd, rs, rt` (R178): signed 64-bit comparison. -/
def execSlt (rd : Reg) (rs : Reg) (rt : Reg) (s : State) : Result :=
  .next (s.setX rd (truth ((s.x rs).slt (s.x rt))))

/-- `sltu rd, rs, rt` (R179): unsigned 64-bit comparison. -/
def execSltu (rd : Reg) (rs : Reg) (rt : Reg) (s : State) : Result :=
  .next (s.setX rd (truth ((s.x rs).ult (s.x rt))))

/-- `dadd rd, rs, rt` (R180): 64-bit sum; Ov on signed overflow. -/
def execDadd (rd : Reg) (rs : Reg) (rt : Reg) (s : State) : Result :=
  s.check64 (s.checked (addOverflows (s.x rs) (s.x rt)) rd (s.x rs + s.x rt))

/-- `daddu rd, rs, rt` (R181): 64-bit sum, wrapping. -/
def execDaddu (rd : Reg) (rs : Reg) (rt : Reg) (s : State) : Result :=
  s.check64 (.next (s.setX rd (s.x rs + s.x rt)))

/-- `dsub rd, rs, rt` (R182): 64-bit difference; Ov on signed overflow. -/
def execDsub (rd : Reg) (rs : Reg) (rt : Reg) (s : State) : Result :=
  s.check64 (s.checked (subOverflows (s.x rs) (s.x rt)) rd (s.x rs - s.x rt))

/-- `dsubu rd, rs, rt` (R183): 64-bit difference, wrapping. -/
def execDsubu (rd : Reg) (rs : Reg) (rt : Reg) (s : State) : Result :=
  s.check64 (.next (s.setX rd (s.x rs - s.x rt)))

/-- `addi rt, rs, imm` (R184): 32-bit sum with the sign-extended immediate; Ov on signed overflow. -/
def execAddi (rt : Reg) (rs : Reg) (imm : Imm16) (s : State) : Result :=
  s.checked (addOverflows (lo32 (s.x rs)) (imm.signExtend 32)) rt (sext64 (lo32 (s.x rs) + imm.signExtend
    32))

/-- `addiu rt, rs, imm` (R185): 32-bit sum with the sign-extended immediate, wrapping. -/
def execAddiu (rt : Reg) (rs : Reg) (imm : Imm16) (s : State) : Result :=
  .next (s.setX rt (sext64 (lo32 (s.x rs) + imm.signExtend 32)))

/-- `slti rt, rs, imm` (R186): signed comparison with the sign-extended immediate. -/
def execSlti (rt : Reg) (rs : Reg) (imm : Imm16) (s : State) : Result :=
  .next (s.setX rt (truth ((s.x rs).slt (arithImm imm))))

/-- `sltiu rt, rs, imm` (R187): unsigned comparison with the sign-extended immediate. -/
def execSltiu (rt : Reg) (rs : Reg) (imm : Imm16) (s : State) : Result :=
  .next (s.setX rt (truth ((s.x rs).ult (arithImm imm))))

/-- `andi rt, rs, imm` (R188): with the zero-extended immediate. -/
def execAndi (rt : Reg) (rs : Reg) (imm : Imm16) (s : State) : Result :=
  .next (s.setX rt (s.x rs &&& logicImm imm))

/-- `ori rt, rs, imm` (R189): with the zero-extended immediate. -/
def execOri (rt : Reg) (rs : Reg) (imm : Imm16) (s : State) : Result :=
  .next (s.setX rt (s.x rs ||| logicImm imm))

/-- `xori rt, rs, imm` (R190): with the zero-extended immediate. -/
def execXori (rt : Reg) (rs : Reg) (imm : Imm16) (s : State) : Result :=
  .next (s.setX rt (s.x rs ^^^ logicImm imm))

/-- `lui rt, imm` (R191): the immediate in bits 31:16, sign-extended. -/
def execLui (rt : Reg) (imm : Imm16) (s : State) : Result := .next (s.setX rt (upperImm imm))

/-- `daddi rt, rs, imm` (R192): 64-bit sum with the sign-extended immediate; Ov on signed overflow. -/
def execDaddi (rt : Reg) (rs : Reg) (imm : Imm16) (s : State) : Result :=
  s.check64 (s.checked (addOverflows (s.x rs) (arithImm imm)) rt (s.x rs + arithImm imm))

/-- `daddiu rt, rs, imm` (R193): 64-bit sum with the sign-extended immediate, wrapping. -/
def execDaddiu (rt : Reg) (rs : Reg) (imm : Imm16) (s : State) : Result :=
  s.check64 (.next (s.setX rt (s.x rs + arithImm imm)))

/-- `sll rd, rt, sa` (R194): left shift of the low word. -/
def execSll (rd : Reg) (rt : Reg) (sa : BitVec 5) (s : State) : Result :=
  .next (s.setX rd (sext64 (lo32 (s.x rt) <<< sa.toNat)))

/-- `srl rd, rt, sa` (R195): logical right shift of the low word. -/
def execSrl (rd : Reg) (rt : Reg) (sa : BitVec 5) (s : State) : Result :=
  .next (s.setX rd (sext64 (lo32 (s.x rt) >>> sa.toNat)))

/-- `sra rd, rt, sa` (R196): arithmetic right shift of the whole register, low word kept. -/
def execSra (rd : Reg) (rt : Reg) (sa : BitVec 5) (s : State) : Result :=
  .next (s.setX rd (sext64 (lo32 ((s.x rt).sshiftRight sa.toNat))))

/-- `sllv rd, rt, rs` (R197): left shift of the low word, by the low 5 bits of rs. -/
def execSllv (rd : Reg) (rt : Reg) (rs : Reg) (s : State) : Result :=
  .next (s.setX rd (sext64 (lo32 (s.x rt) <<< (s.shift5 rs))))

/-- `srlv rd, rt, rs` (R198): logical right shift of the low word, by the low 5 bits of rs. -/
def execSrlv (rd : Reg) (rt : Reg) (rs : Reg) (s : State) : Result :=
  .next (s.setX rd (sext64 (lo32 (s.x rt) >>> (s.shift5 rs))))

/-- `srav rd, rt, rs` (R199): arithmetic right shift of the whole register, low word kept, by the low 5
bits of rs. -/
def execSrav (rd : Reg) (rt : Reg) (rs : Reg) (s : State) : Result :=
  .next (s.setX rd (sext64 (lo32 ((s.x rt).sshiftRight (s.shift5 rs)))))

/-- `dsll rd, rt, sa` (R200): 64-bit left shift. -/
def execDsll (rd : Reg) (rt : Reg) (sa : BitVec 5) (s : State) : Result :=
  s.check64 (.next (s.setX rd (s.x rt <<< sa.toNat)))

/-- `dsrl rd, rt, sa` (R201): 64-bit logical right shift. -/
def execDsrl (rd : Reg) (rt : Reg) (sa : BitVec 5) (s : State) : Result :=
  s.check64 (.next (s.setX rd (s.x rt >>> sa.toNat)))

/-- `dsra rd, rt, sa` (R202): 64-bit arithmetic right shift. -/
def execDsra (rd : Reg) (rt : Reg) (sa : BitVec 5) (s : State) : Result :=
  s.check64 (.next (s.setX rd ((s.x rt).sshiftRight sa.toNat)))

/-- `dsllv rd, rt, rs` (R203): 64-bit left shift by the low 6 bits of rs. -/
def execDsllv (rd : Reg) (rt : Reg) (rs : Reg) (s : State) : Result :=
  s.check64 (.next (s.setX rd (s.x rt <<< (s.shift6 rs))))

/-- `dsrlv rd, rt, rs` (R204): 64-bit logical right shift by the low 6 bits of rs. -/
def execDsrlv (rd : Reg) (rt : Reg) (rs : Reg) (s : State) : Result :=
  s.check64 (.next (s.setX rd (s.x rt >>> (s.shift6 rs))))

/-- `dsrav rd, rt, rs` (R205): 64-bit arithmetic right shift by the low 6 bits of rs. -/
def execDsrav (rd : Reg) (rt : Reg) (rs : Reg) (s : State) : Result :=
  s.check64 (.next (s.setX rd ((s.x rt).sshiftRight (s.shift6 rs))))

/-- `dsll32 rd, rt, sa` (R206): 64-bit left shift by sa + 32. -/
def execDsll32 (rd : Reg) (rt : Reg) (sa : BitVec 5) (s : State) : Result :=
  s.check64 (.next (s.setX rd (s.x rt <<< (sa.toNat + 32))))

/-- `dsrl32 rd, rt, sa` (R207): 64-bit logical right shift by sa + 32. -/
def execDsrl32 (rd : Reg) (rt : Reg) (sa : BitVec 5) (s : State) : Result :=
  s.check64 (.next (s.setX rd (s.x rt >>> (sa.toNat + 32))))

/-- `dsra32 rd, rt, sa` (R208): 64-bit arithmetic right shift by sa + 32. -/
def execDsra32 (rd : Reg) (rt : Reg) (sa : BitVec 5) (s : State) : Result :=
  s.check64 (.next (s.setX rd ((s.x rt).sshiftRight (sa.toNat + 32))))

end Sys2Proof.Machine
end

