-- ==== Sys2Proof/Machine/Branch.lean ====
section
/-! DEFINITION. Machine/Branch.lean: the meanings of branches and jumps (42_branch_jump R250 to R275).
Every meaning runs after line 4 of the step (10_state R24): `prevPc` is the instruction's own address. -/

namespace Sys2Proof.Machine

/-- `j target` (R253): after the delay slot. -/
def execJ (idx : BitVec 26) (s : State) : Result := .next (s.branch true (s.jumpTarget idx))

/-- `jal target` (R254): links x[31]. -/
def execJal (idx : BitVec 26) (s : State) : Result :=
  .next ((s.setX 31#5 s.linkValue).branch true (s.jumpTarget idx))

/-- `jr rs` (R255): the target is read now; a misaligned one faults at its fetch (R274). -/
def execJr (rs : Reg) (s : State) : Result := .next (s.branch true (s.x rs))

/-- `jalr rd, rs` (R256): the target is the old value of the register. -/
def execJalr (rd : Reg) (rs : Reg) (s : State) : Result :=
  .next ((s.setX rd s.linkValue).branch true (s.x rs))

/-- `beq rs, rt, offset` (R257): compares all 64 bits. -/
def execBeq (rs : Reg) (rt : Reg) (imm : Imm16) (s : State) : Result :=
  .next (s.branch (s.x rs == s.x rt) (s.branchTarget imm))

/-- `bne rs, rt, offset` (R258): compares all 64 bits. -/
def execBne (rs : Reg) (rt : Reg) (imm : Imm16) (s : State) : Result :=
  .next (s.branch (s.x rs != s.x rt) (s.branchTarget imm))

/-- `blez rs, offset` (R259): compares all 64 bits. -/
def execBlez (rs : Reg) (imm : Imm16) (s : State) : Result :=
  .next (s.branch ((s.x rs).sle 0#64) (s.branchTarget imm))

/-- `bgtz rs, offset` (R260): compares all 64 bits. -/
def execBgtz (rs : Reg) (imm : Imm16) (s : State) : Result :=
  .next (s.branch ((0#64).slt (s.x rs)) (s.branchTarget imm))

/-- `beql rs, rt, offset` (R261): skips the delay slot when the condition is false. -/
def execBeql (rs : Reg) (rt : Reg) (imm : Imm16) (s : State) : Result :=
  .next (s.branchLikely (s.x rs == s.x rt) (s.branchTarget imm))

/-- `bnel rs, rt, offset` (R262): skips the delay slot when the condition is false. -/
def execBnel (rs : Reg) (rt : Reg) (imm : Imm16) (s : State) : Result :=
  .next (s.branchLikely (s.x rs != s.x rt) (s.branchTarget imm))

/-- `blezl rs, offset` (R263): skips the delay slot when the condition is false. -/
def execBlezl (rs : Reg) (imm : Imm16) (s : State) : Result :=
  .next (s.branchLikely ((s.x rs).sle 0#64) (s.branchTarget imm))

/-- `bgtzl rs, offset` (R264): skips the delay slot when the condition is false. -/
def execBgtzl (rs : Reg) (imm : Imm16) (s : State) : Result :=
  .next (s.branchLikely ((0#64).slt (s.x rs)) (s.branchTarget imm))

/-- `bltz rs, offset` (R265): compares all 64 bits. -/
def execBltz (rs : Reg) (imm : Imm16) (s : State) : Result :=
  .next (s.branch ((s.x rs).msb) (s.branchTarget imm))

/-- `bgez rs, offset` (R266): compares all 64 bits. -/
def execBgez (rs : Reg) (imm : Imm16) (s : State) : Result :=
  .next (s.branch (!(s.x rs).msb) (s.branchTarget imm))

/-- `bltzl rs, offset` (R267): skips the delay slot when the condition is false. -/
def execBltzl (rs : Reg) (imm : Imm16) (s : State) : Result :=
  .next (s.branchLikely ((s.x rs).msb) (s.branchTarget imm))

/-- `bgezl rs, offset` (R268): skips the delay slot when the condition is false. -/
def execBgezl (rs : Reg) (imm : Imm16) (s : State) : Result :=
  .next (s.branchLikely (!(s.x rs).msb) (s.branchTarget imm))

/-- `bltzal rs, offset` (R269): links taken or not; the condition is on the old value. -/
def execBltzal (rs : Reg) (imm : Imm16) (s : State) : Result :=
  .next ((s.setX 31#5 s.linkValue).branch ((s.x rs).msb) (s.branchTarget imm))

/-- `bgezal rs, offset` (R270): links taken or not; the condition is on the old value. -/
def execBgezal (rs : Reg) (imm : Imm16) (s : State) : Result :=
  .next ((s.setX 31#5 s.linkValue).branch (!(s.x rs).msb) (s.branchTarget imm))

/-- `bltzall rs, offset` (R271): links taken or not; skips the delay slot when the condition is false. -/
def execBltzall (rs : Reg) (imm : Imm16) (s : State) : Result :=
  .next ((s.setX 31#5 s.linkValue).branchLikely ((s.x rs).msb) (s.branchTarget imm))

/-- `bgezall rs, offset` (R272): links taken or not; skips the delay slot when the condition is false. -/
def execBgezall (rs : Reg) (imm : Imm16) (s : State) : Result :=
  .next ((s.setX 31#5 s.linkValue).branchLikely (!(s.x rs).msb) (s.branchTarget imm))

end Sys2Proof.Machine
end

