-- ==== Sys2Proof/Machine/Translate.lean ====
section
/-! DEFINITION. Machine/Translate.lean: the address translator (20_memory R87 to R101), the TLB
operations on an entry, and the three ways memory is reached: a load, a store, a fetch (R83, R84, R108). -/

namespace Sys2Proof.Machine

/-- The kinds of access of `Translate` (R94). -/
inductive Access where
  | fetch
  | load
  | store
  deriving DecidableEq, Repr

/-- The failure classes (R98). -/
inductive XlateFail where
  | disallowed
  | miss
  | invalid
  | modified
  deriving DecidableEq, Repr

/-- What a segment does with an address (R89 to R93). -/
inductive Region where
  | unmapped (pa : Word)
  | mapped
  | disallowed
  deriving DecidableEq, Repr

/-- The address error of an access kind (R85, R98). -/
def Access.addressError : Access → Exc
  | .fetch => .adel
  | .load => .adel
  | .store => .ades

/-- The exception of a failure class (R98). -/
def XlateFail.exc (kind : Access) : XlateFail → Exc
  | .disallowed => kind.addressError
  | .miss => if kind = .store then .tlbs true else .tlbl true
  | .invalid => if kind = .store then .tlbs false else .tlbl false
  | .modified => .mod

/-! ### Segments -/

/-- KSEG0 and CKSEG0: `pa = va[31:0] - 0x80000000` (R89, R91). -/
def kseg0 (va : Dword) : Region := .unmapped (lo32 va - 0x80000000#32)

/-- KSEG1 and CKSEG1: `pa = va[31:0] - 0xA0000000` (R89, R91). -/
def kseg1 (va : Dword) : Region := .unmapped (lo32 va - 0xA0000000#32)

/-- XKPHYS (R93): `va[58:32]` must be 0. -/
def xkphys (va : Dword) : Region := if va.extractLsb' 32 27 = 0#27 then .unmapped (lo32 va) else .disallowed

/-- The 32-bit map (R89, R90), on a sign-extended address. -/
def segment32 (m : Mode) (va : Dword) : Region :=
  let a := (lo32 va).toNat
  match m with
  | .kernel =>
    if a < 0x80000000 then .mapped
    else if a < 0xA0000000 then kseg0 va
    else if a < 0xC0000000 then kseg1 va
    else .mapped
  | .supervisor =>
    if a < 0x80000000 then .mapped
    else if 0xC0000000 ≤ a ∧ a < 0xE0000000 then .mapped
    else .disallowed
  | .user => if a < 0x80000000 then .mapped else .disallowed
  | .undefined => .disallowed

/-- The 64-bit map (R91, R92). -/
def segment64 (m : Mode) (va : Dword) : Region :=
  let a := va.toNat
  match m with
  | .kernel =>
    if a ≤ 0x000000FFFFFFFFFF then .mapped
    else if 0x4000000000000000 ≤ a ∧ a ≤ 0x400000FFFFFFFFFF then .mapped
    else if 0x8000000000000000 ≤ a ∧ a ≤ 0xBFFFFFFFFFFFFFFF then xkphys va
    else if 0xC000000000000000 ≤ a ∧ a ≤ 0xC00000FF7FFFFFFF then .mapped
    else if 0xFFFFFFFF80000000 ≤ a ∧ a ≤ 0xFFFFFFFF9FFFFFFF then kseg0 va
    else if 0xFFFFFFFFA0000000 ≤ a ∧ a ≤ 0xFFFFFFFFBFFFFFFF then kseg1 va
    else if 0xFFFFFFFFC0000000 ≤ a then .mapped
    else .disallowed
  | .supervisor =>
    if a ≤ 0x000000FFFFFFFFFF then .mapped
    else if 0x4000000000000000 ≤ a ∧ a ≤ 0x400000FFFFFFFFFF then .mapped
    else if 0xFFFFFFFFC0000000 ≤ a ∧ a ≤ 0xFFFFFFFFDFFFFFFF then .mapped
    else .disallowed
  | .user => if a ≤ 0x000000FFFFFFFFFF then .mapped else .disallowed
  | .undefined => .disallowed

/-- The region of an address (R88): the 64-bit map when `addr64`, else the 32-bit map, in which an address that
is not a sign-extended 32-bit value is disallowed (R89). -/
def region (m : Mode) (addr64 : Bool) (va : Dword) : Region :=
  if addr64 then segment64 m va
  else if va = sext64 (lo32 va) then segment32 m va
  else .disallowed

/-! ### The TLB -/

/-- Does an entry match the VPN2 and region bits of an address under an ASID (R95)? -/
def TlbEntry.hits (e : TlbEntry) (va : Dword) (asid : BitVec 8) : Bool :=
  e.initialized && ((va.extractLsb' 13 27 &&& ~~~(e.mask.setWidth 27)) == e.vpn2)
    && (va.extractLsb' 62 2 == e.r) && (e.global || e.asid == asid)

/-- `pairmask >> 1`: the size of one page of the entry minus 1 (R96). -/
def TlbEntry.offMask (e : TlbEntry) : Word := ((e.mask.setWidth 32 <<< 13) ||| 0x1FFF#32) >>> 1

/-- The page of the pair the page-selector bit chooses (R96). -/
def TlbEntry.page (e : TlbEntry) (va : Dword) : TlbPage :=
  if lo32 va &&& (e.offMask + 1#32) = 0#32 then e.lo0 else e.lo1

/-- `Select(e, va, kind)` (R96, R97). -/
def TlbEntry.select (e : TlbEntry) (va : Dword) (kind : Access) : Except XlateFail Word :=
  let p := e.page va
  if !p.v then .error .invalid
  else if kind = .store ∧ !p.d then .error .modified
  else .ok (p.pfn.setWidth 32 * 0x1000#32 + (lo32 va &&& e.offMask))

/-- `TlbLookup(va, kind)` (R95): the first entry that matches decides (R101). -/
def tlbLookup (tlb : Vector TlbEntry 32) (asid : BitVec 8) (va : Dword) (kind : Access) :
    Except XlateFail Word :=
  match tlb.toList.find? (fun e => e.hits va asid) with
  | some e => e.select va kind
  | none => .error .miss

/-- The entry TLBWI and TLBWR write, from the CP0 registers (45_cp0 R377 `WriteTLB`). -/
def Cp0.tlbEntry (c : Cp0) : TlbEntry where
  initialized := true
  mask := c.pageMask.extractLsb' 13 12
  r := c.entryHi.extractLsb' 62 2
  vpn2 := c.entryHi.extractLsb' 13 27 &&& ~~~((c.pageMask.extractLsb' 13 12).setWidth 27)
  asid := c.entryHi.extractLsb' 0 8
  global := c.entryLo0.getLsbD 0 && c.entryLo1.getLsbD 0
  lo0 := { pfn := c.entryLo0.extractLsb' 6 24, c := c.entryLo0.extractLsb' 3 3,
           d := c.entryLo0.getLsbD 2, v := c.entryLo0.getLsbD 1 }
  lo1 := { pfn := c.entryLo1.extractLsb' 6 24, c := c.entryLo1.extractLsb' 3 3,
           d := c.entryLo1.getLsbD 2, v := c.entryLo1.getLsbD 1 }

/-- The EntryLo value TLBR reads back from one page; both G bits are the entry's single flag (45_cp0 R376). -/
def TlbPage.entryLo (p : TlbPage) (global : Bool) : Dword :=
  (zext64 p.pfn <<< 6) ||| (zext64 p.c <<< 3) ||| (zext64 (BitVec.ofBool p.d) <<< 2)
    ||| (zext64 (BitVec.ofBool p.v) <<< 1) ||| zext64 (BitVec.ofBool global)

/-- CP0 after TLBR of an entry (45_cp0 R376). -/
def Cp0.readTlbEntry (c : Cp0) (e : TlbEntry) : Cp0 :=
  { c with
    pageMask := e.mask.setWidth 32 <<< 13
    entryHi := (zext64 e.r <<< 62) ||| (zext64 e.vpn2 <<< 13) ||| zext64 e.asid
    entryLo0 := e.lo0.entryLo e.global
    entryLo1 := e.lo1.entryLo e.global }

/-- Index after TLBP (45_cp0 R379): the lowest matching index, else P = 1 with index field 0. -/
def tlbProbe (tlb : Vector TlbEntry 32) (entryHi : Dword) : Word :=
  match tlb.toList.findIdx? (fun e => e.hits entryHi (entryHi.extractLsb' 0 8)) with
  | some i => BitVec.ofNat 32 i
  | none => 0x80000000#32

/-- `Translate(va, kind)` (R94): a function of the address, the kind, the mode, `addr64`, the ASID and the TLB
(R100); it changes no state. -/
def State.translate (s : State) (va : Dword) (kind : Access) : Except XlateFail Word :=
  match region s.mode s.addr64 va with
  | .disallowed => .error .disallowed
  | .unmapped pa => .ok pa
  | .mapped => tlbLookup s.tlb s.asid va kind

/-! ### Memory accesses -/

/-- Translate, or record the address and take the exception of the failure (R94). -/
def State.translated (s : State) (va : Dword) (kind : Access) (k : Word → Result) : Result :=
  match s.translate va kind with
  | .ok pa => k pa
  | .error f => s.raiseAt va (f.exc kind)

/-- The alignment check, made before translation (R85). -/
def State.aligned (s : State) (va : Dword) (n : Nat) (kind : Access) (k : Result) : Result :=
  if va.toNat % n = 0 then k else s.raiseAt va kind.addressError

/-- The checks of `MemRead(va, n)` (R83); `k` receives the physical address. -/
def State.load (s : State) (va : Dword) (n : Nat) (k : Word → Result) : Result :=
  s.aligned va n .load (s.translated va .load k)

/-- The checks of `MemWrite(va, n, v)` (R84); `k` receives the physical address. -/
def State.store (s : State) (va : Dword) (n : Nat) (k : Word → Result) : Result :=
  s.aligned va n .store (s.translated va .store k)

/-- `Fetch(a)` (R108); `k` receives the state after the bus read and the instruction word. -/
def State.fetch (s : State) (a : Dword) (k : State → Word → Result) : Result :=
  s.aligned a 4 .fetch (s.translated a .fetch fun pa => k (s.afterRead pa 4) (s.bus32 pa))

end Sys2Proof.Machine
end

