-- ==== Sys2Proof/Machine/Cop0.lean ====
section
/-! DEFINITION. Machine/Cop0.lean: the meanings of coprocessor 0 (45_cp0 R370 to R380).
Every meaning runs after line 4 of the step (10_state R24): `prevPc` is the instruction's own address. -/

namespace Sys2Proof.Machine

/-- Index[5:0] (10_state R33). -/
def State.indexField (s : State) : BitVec 6 := s.cp0.index.extractLsb' 0 6

/-- Wired[5:0] (10_state R38). -/
def State.wiredField (s : State) : BitVec 6 := s.cp0.wired.extractLsb' 0 6

/-- Go on with the TLB entry a number names; 32 to 63 name none (R376, R377, log 12). -/
def State.withTlbIndex (_ : State) (i : BitVec 6) (k : Fin 32 → Result) : Result :=
  if h : i.toNat < 32 then k ⟨i.toNat, h⟩ else .refused (.noTlbEntry i)

/-- `mfc0 rt, rd` (R371): bits 31:0, sign-extended. -/
def execMfc0 (rt : Reg) (rd : Reg) (s : State) : Result :=
  s.checkCop0 (.next (s.setX rt (sext64 (lo32 (s.cp0.read rd)))))

/-- `dmfc0 rt, rd` (R372): all 64 bits. -/
def execDmfc0 (rt : Reg) (rd : Reg) (s : State) : Result :=
  s.checkCop0 (s.check64 (.next (s.setX rt (s.cp0.read rd))))

/-- `mtc0 rt, rd` (R373): the low word, sign-extended, under the write masks of R375. -/
def execMtc0 (rt : Reg) (rd : Reg) (s : State) : Result :=
  s.checkCop0 (.next (s.setCp0 (s.cp0.write rd (sext64 (lo32 (s.x rt))))))

/-- `dmtc0 rt, rd` (R374): the doubleword, under the write masks of R375. -/
def execDmtc0 (rt : Reg) (rd : Reg) (s : State) : Result :=
  s.checkCop0 (s.check64 (.next (s.setCp0 (s.cp0.write rd (s.x rt)))))

/-- `tlbr` (R376): reads the entry Index names. -/
def execTlbr (s : State) : Result :=
  s.checkCop0 (s.withTlbIndex s.indexField fun i => .next (s.setCp0 (s.cp0.readTlbEntry s.tlb[i])))

/-- `tlbwi` (R377): writes the entry Index names. -/
def execTlbwi (s : State) : Result :=
  s.checkCop0 (s.withTlbIndex s.indexField fun i => .next (s.setTlb i s.cp0.tlbEntry))

/-- `tlbwr` (R378): writes the entry Random names; no range with Wired > 31 (log 12). -/
def execTlbwr (s : State) : Result :=
  s.checkCop0 (if 31#6 < s.wiredField then .refused .noRandomRange
    else s.withTlbIndex s.cp0.random fun i => .next (s.setTlb i s.cp0.tlbEntry))

/-- `tlbp` (R379): the lowest matching index, else P. -/
def execTlbp (s : State) : Result :=
  s.checkCop0 (.next (s.setCp0 { s.cp0 with index := tlbProbe s.tlb s.cp0.entryHi }))

/-- `eret` (R380): no delay slot. -/
def execEret (s : State) : Result := s.checkCop0 (.next s.returnFromException)

end Sys2Proof.Machine
end

