-- ==== Sys2Proof/Machine/Float.lean ====
section
/-! DEFINITION. Machine/Float.lean: the arithmetic of 47_fpu_arith as plain functions of the operands and of
FCR31: formats (R430), input classification (R433), exact results, rounding (R431), output classification
(R434), conversion to fixed point (R473), comparison (R456). -/

namespace Sys2Proof.Machine

/-! ### Formats (R430) -/

/-- The floating-point formats. -/
inductive FpFmt where
  /-- S, IEEE 754 binary32 -/
  | single
  /-- D, IEEE 754 binary64 -/
  | double
  deriving DecidableEq, Repr

/-- The number of fraction bits. -/
def FpFmt.frac : FpFmt → Nat
  | .single => 23
  | .double => 52

/-- The number of exponent bits. -/
def FpFmt.expBits : FpFmt → Nat
  | .single => 8
  | .double => 11

/-- The exponent bias, which is also the largest exponent of a finite value. -/
def FpFmt.bias : FpFmt → Int
  | .single => 127
  | .double => 1023

/-- The exponent of the smallest normal magnitude (R434 `emin`). -/
def FpFmt.emin : FpFmt → Int
  | .single => -126
  | .double => -1022

/-- The default NaN (R435). -/
def FpFmt.defaultNaN : FpFmt → Dword
  | .single => 0x7FBFFFFF#64
  | .double => 0x7FF7FFFFFFFFFFFF#64

/-- An operand by its class (R430, R433). `mant * 2 ^ exp` is the magnitude of a finite one. -/
inductive FpDatum where
  | zero (neg : Bool)
  | subnormal (neg : Bool)
  | normal (neg : Bool) (mant : Nat) (exp : Int)
  | inf (neg : Bool)
  /-- fraction's top bit 0 -/
  | qnan
  /-- fraction's top bit 1 -/
  | snan
  deriving DecidableEq, Repr

/-- The fraction field. -/
def FpFmt.fracField (f : FpFmt) (v : Dword) : Nat := v.toNat % 2 ^ f.frac

/-- The exponent field. -/
def FpFmt.expField (f : FpFmt) (v : Dword) : Nat := v.toNat / 2 ^ f.frac % 2 ^ f.expBits

/-- The sign bit. -/
def FpFmt.neg (f : FpFmt) (v : Dword) : Bool := v.getLsbD (f.frac + f.expBits)

/-- Classify a bit pattern; an S pattern stands in the low 32 bits (R430, R433). -/
def FpFmt.classify (f : FpFmt) (v : Dword) : FpDatum :=
  if f.expField v = 2 ^ f.expBits - 1 then
    (if f.fracField v = 0 then .inf (f.neg v)
     else if f.fracField v < 2 ^ (f.frac - 1) then .qnan else .snan)
  else if f.expField v = 0 then
    (if f.fracField v = 0 then .zero (f.neg v) else .subnormal (f.neg v))
  else .normal (f.neg v) (2 ^ f.frac + f.fracField v) (f.expField v - f.bias - f.frac)

/-- The sign bit as a pattern. -/
def FpFmt.signBit (f : FpFmt) (neg : Bool) : Nat := if neg then 2 ^ (f.frac + f.expBits) else 0

/-- A signed zero. -/
def FpFmt.zero (f : FpFmt) (neg : Bool) : Dword := BitVec.ofNat 64 (f.signBit neg)

/-- A signed infinity. -/
def FpFmt.inf (f : FpFmt) (neg : Bool) : Dword :=
  BitVec.ofNat 64 (f.signBit neg + (2 ^ f.expBits - 1) * 2 ^ f.frac)

/-- The largest finite magnitude, signed. -/
def FpFmt.largest (f : FpFmt) (neg : Bool) : Dword :=
  BitVec.ofNat 64 (f.signBit neg + (2 ^ f.expBits - 1) * 2 ^ f.frac - 1)

/-- The smallest normal magnitude, signed. -/
def FpFmt.smallest (f : FpFmt) (neg : Bool) : Dword := BitVec.ofNat 64 (f.signBit neg + 2 ^ f.frac)

/-- A normal value `sig * 2 ^ q`, with `2 ^ frac ≤ sig ≤ 2 ^ (frac + 1)`: the hidden bit of `sig`, and its
carry, land in the exponent field. -/
def FpFmt.pack (f : FpFmt) (neg : Bool) (sig : Nat) (q : Int) : Dword :=
  BitVec.ofNat 64 (f.signBit neg + (q + f.frac + f.bias - 1).toNat * 2 ^ f.frac + sig)

/-! ### Rounding (R431) -/

/-- Does a magnitude round up: `rem` in units of `2 * half`, `rest` when something lies below `rem`? -/
def roundsUp (mode : Rounding) (neg : Bool) (low rem half : Nat) (rest : Bool) : Bool :=
  match mode with
  | .rn => decide (half < rem) || (decide (rem = half) && (rest || low % 2 == 1))
  | .rz => false
  | .rp => !neg && (rem != 0 || rest)
  | .rm => neg && (rem != 0 || rest)

/-- Round the magnitude `mant * 2 ^ exp` (plus something smaller than `2 ^ exp` when `rest`) to a multiple of
`2 ^ q`, in the direction of the mode; answer the multiple and whether it differs from the exact value.
`rest` is only ever set where `exp < q`. -/
def roundTo (mode : Rounding) (neg : Bool) (mant : Nat) (exp : Int) (rest : Bool) (q : Int) : Nat × Bool :=
  if exp < q then
    let unit := 2 ^ (q - exp).toNat
    let low := mant / unit
    let rem := mant % unit
    (if roundsUp mode neg low rem (unit / 2) rest then low + 1 else low, rem != 0 || rest)
  else (mant * 2 ^ (exp - q).toNat, rest)

/-! ### Results (R434, R435) -/

/-- What an operation answers: the causes it signals and the pattern it writes if it does not trap. -/
structure FpAnswer where
  exc : FpExc
  val : Dword
  deriving DecidableEq, Repr

/-- An unimplemented operation: cause E, nothing is written. -/
def FpAnswer.unimplemented : FpAnswer := { exc := fpE, val := 0#64 }

/-- An invalid operation: cause V, the default NaN (R434, R435). -/
def FpAnswer.invalid (f : FpFmt) : FpAnswer := { exc := fpV, val := f.defaultNaN }

/-- An exact result. -/
def FpAnswer.exact (v : Dword) : FpAnswer := { exc := fpNone, val := v }

/-- The result of an overflow (R434). -/
def FpFmt.overflowed (f : FpFmt) (mode : Rounding) (neg : Bool) : Dword :=
  match mode with
  | .rn => f.inf neg
  | .rz => f.largest neg
  | .rp => if neg then f.largest true else f.inf false
  | .rm => if neg then f.inf true else f.largest false

/-- The result of a flushed underflow (R434). -/
def FpFmt.flushed (f : FpFmt) (mode : Rounding) (neg : Bool) : Dword :=
  match mode with
  | .rn => f.zero neg
  | .rz => f.zero neg
  | .rp => if neg then f.zero true else f.smallest false
  | .rm => if neg then f.smallest true else f.zero false

/-- Does FCR31 turn a tiny result into an unimplemented operation (R434)? -/
def fcrTinyTraps (fcr : Word) : Bool := !fcrFS fcr || (fcrEnable fcr &&& 0b00011#5) != 0#5

/-- CheckOutput (R434) of a non-zero finite exact result: the magnitude `mant * 2 ^ exp`, and something smaller
than `2 ^ exp` above it when `rest`. Tininess is judged on the exact value, before rounding. -/
def FpFmt.finish (f : FpFmt) (fcr : Word) (neg : Bool) (mant : Nat) (exp : Int) (rest : Bool) : FpAnswer :=
  let mode := fcrRounding fcr
  let e := (mant.log2 : Int) + exp
  if e < f.emin then
    (if fcrTinyTraps fcr then .unimplemented else { exc := fpUI, val := f.flushed mode neg })
  else
    let q := e - f.frac
    let r := roundTo mode neg mant exp rest q
    if f.bias < e ∨ (f.bias = e ∧ r.1 = 2 ^ (f.frac + 1)) then { exc := fpOI, val := f.overflowed mode neg }
    else { exc := if r.2 then fpI else fpNone, val := f.pack neg r.1 q }

/-! ### Input classification (R433) -/

/-- An operand that makes the operation unimplemented: a subnormal or a Q-NaN. -/
def FpDatum.refused : FpDatum → Bool
  | .subnormal _ => true
  | .qnan => true
  | _ => false

/-- A signalling NaN. -/
def FpDatum.isSNaN : FpDatum → Bool
  | .snan => true
  | _ => false

/-- A NaN of either kind. -/
def FpDatum.isNaN : FpDatum → Bool
  | .qnan => true
  | .snan => true
  | _ => false

/-- CheckInputs (R433) of one operand; `dst` is the format of the result. -/
def checkInput (dst : FpFmt) (a : FpDatum) (k : FpAnswer) : FpAnswer :=
  if a.refused then .unimplemented else if a.isSNaN then .invalid dst else k

/-- CheckInputs (R433) of two operands. -/
def checkInputs (dst : FpFmt) (a b : FpDatum) (k : FpAnswer) : FpAnswer :=
  if a.refused || b.refused then .unimplemented else if a.isSNaN || b.isSNaN then .invalid dst else k

/-! ### Arithmetic (R436 to R443) -/

/-- The signed integer of a sign and a magnitude. -/
def signedInt (neg : Bool) (m : Nat) : Int := if neg then -(m : Int) else m

/-- The sign of an exact zero sum of operands of opposite sign: minus only toward minus infinity (R431). -/
def zeroSumNeg (fcr : Word) : Bool := fcrRounding fcr == .rm

/-- A sum of two finite non-zero values, aligned at the lower exponent. -/
def FpFmt.addNormal (f : FpFmt) (fcr : Word) (na : Bool) (ma : Nat) (ea : Int) (nb : Bool) (mb : Nat)
    (eb : Int) : FpAnswer :=
  let e := min ea eb
  let sum := signedInt na (ma * 2 ^ (ea - e).toNat) + signedInt nb (mb * 2 ^ (eb - e).toNat)
  if sum = 0 then .exact (f.zero (zeroSumNeg fcr))
  else f.finish fcr (decide (sum < 0)) sum.natAbs e false

/-- ADD on classified operands, with the patterns of the operands for the cases that return one (R436). -/
def FpFmt.addDatum (f : FpFmt) (fcr : Word) (a b : FpDatum) (va vb : Dword) : FpAnswer :=
  match a, b with
  | .inf na, .inf nb => if na = nb then .exact (f.inf na) else .invalid f
  | .inf na, _ => .exact (f.inf na)
  | _, .inf nb => .exact (f.inf nb)
  | .zero na, .zero nb => .exact (f.zero (if na = nb then na else zeroSumNeg fcr))
  | .zero _, _ => .exact vb
  | _, .zero _ => .exact va
  | .normal na ma ea, .normal nb mb eb => f.addNormal fcr na ma ea nb mb eb
  | _, _ => .unimplemented

/-- Change the sign bit of a pattern. -/
def FpFmt.negate (f : FpFmt) (v : Dword) : Dword := v ^^^ BitVec.ofNat 64 (2 ^ (f.frac + f.expBits))

/-- ADD.fmt (R436). -/
def FpFmt.add (f : FpFmt) (fcr : Word) (a b : Dword) : FpAnswer :=
  checkInputs f (f.classify a) (f.classify b) (f.addDatum fcr (f.classify a) (f.classify b) a b)

/-- SUB.fmt (R437): the sum with the second operand's sign inverted. -/
def FpFmt.sub (f : FpFmt) (fcr : Word) (a b : Dword) : FpAnswer :=
  checkInputs f (f.classify a) (f.classify b)
    (f.addDatum fcr (f.classify a) (f.classify (f.negate b)) a (f.negate b))

/-- MUL.fmt (R438). -/
def FpFmt.mulDatum (f : FpFmt) (fcr : Word) (a b : FpDatum) : FpAnswer :=
  match a, b with
  | .inf _, .zero _ => .invalid f
  | .zero _, .inf _ => .invalid f
  | .inf na, .inf nb => .exact (f.inf (na != nb))
  | .inf na, .normal nb _ _ => .exact (f.inf (na != nb))
  | .normal na _ _, .inf nb => .exact (f.inf (na != nb))
  | .zero na, .zero nb => .exact (f.zero (na != nb))
  | .zero na, .normal nb _ _ => .exact (f.zero (na != nb))
  | .normal na _ _, .zero nb => .exact (f.zero (na != nb))
  | .normal na ma ea, .normal nb mb eb => f.finish fcr (na != nb) (ma * mb) (ea + eb) false
  | _, _ => .unimplemented

/-- MUL.fmt (R438). -/
def FpFmt.mul (f : FpFmt) (fcr : Word) (a b : Dword) : FpAnswer :=
  checkInputs f (f.classify a) (f.classify b) (f.mulDatum fcr (f.classify a) (f.classify b))

/-- DIV.fmt (R439): the quotient is taken to 64 bits more than the dividend has, and a remainder is kept as
`rest` (log 22). -/
def FpFmt.divDatum (f : FpFmt) (fcr : Word) (a b : FpDatum) : FpAnswer :=
  match a, b with
  | .inf _, .inf _ => .invalid f
  | .zero _, .zero _ => .invalid f
  | .inf na, .zero nb => .exact (f.inf (na != nb))
  | .inf na, .normal nb _ _ => .exact (f.inf (na != nb))
  | .zero na, .inf nb => .exact (f.zero (na != nb))
  | .normal na _ _, .inf nb => .exact (f.zero (na != nb))
  | .zero na, .normal nb _ _ => .exact (f.zero (na != nb))
  | .normal na _ _, .zero nb => { exc := fpZ, val := f.inf (na != nb) }
  | .normal na ma ea, .normal nb mb eb =>
    f.finish fcr (na != nb) (ma * 2 ^ 64 / mb) (ea - eb - 64) (ma * 2 ^ 64 % mb != 0)
  | _, _ => .unimplemented

/-- DIV.fmt (R439). -/
def FpFmt.div (f : FpFmt) (fcr : Word) (a b : Dword) : FpAnswer :=
  checkInputs f (f.classify a) (f.classify b) (f.divDatum fcr (f.classify a) (f.classify b))

/-- The integer square root, bit by bit: with `k` bits still to find below the root `r` found so far. -/
def isqrtFrom (n : Nat) : Nat → Nat → Nat
  | 0, r => r
  | k + 1, r => isqrtFrom n k (if (r + 2 ^ k) * (r + 2 ^ k) ≤ n then r + 2 ^ k else r)

/-- The integer square root of a number below 2^128. -/
def isqrt (n : Nat) : Nat := isqrtFrom n 64 0

/-- The square root of `mant * 2 ^ exp`: the exponent is made even and the root taken to at least 43 bits;
`rest` when it is not exact (log 22). -/
def FpFmt.sqrtNormal (f : FpFmt) (fcr : Word) (mant : Nat) (exp : Int) : FpAnswer :=
  let n := if exp % 2 = 0 then mant * 2 ^ 64 else mant * 2 ^ 65
  let e := if exp % 2 = 0 then (exp - 64) / 2 else (exp - 65) / 2
  f.finish fcr false (isqrt n) e (isqrt n * isqrt n != n)

/-- SQRT.fmt (R440). -/
def FpFmt.sqrt (f : FpFmt) (fcr : Word) (a : Dword) : FpAnswer :=
  checkInput f (f.classify a)
    (match f.classify a with
     | .zero n => .exact (f.zero n)
     | .inf false => .exact (f.inf false)
     | .normal false m e => f.sqrtNormal fcr m e
     | _ => .invalid f)

/-- ABS.fmt (R441): the sign bit cleared. -/
def FpFmt.abs (f : FpFmt) (a : Dword) : FpAnswer :=
  checkInput f (f.classify a) (.exact (a &&& ~~~BitVec.ofNat 64 (2 ^ (f.frac + f.expBits))))

/-- NEG.fmt (R443): the sign bit inverted. -/
def FpFmt.negAnswer (f : FpFmt) (a : Dword) : FpAnswer :=
  checkInput f (f.classify a) (.exact (f.negate a))

/-! ### Conversion to floating point (R452, R453) -/

/-- CVT.S.D and CVT.D.S: the value of one format rounded to another. An S-NaN gives the default NaN of the
destination format (DEDUCED, log 14). -/
def cvtFloat (src dst : FpFmt) (fcr : Word) (a : Dword) : FpAnswer :=
  checkInput dst (src.classify a)
    (match src.classify a with
     | .zero n => .exact (dst.zero n)
     | .inf n => .exact (dst.inf n)
     | .normal n m e => dst.finish fcr n m e false
     | _ => .unimplemented)

/-- The exact integer rounded to a floating-point format; zero is +0. -/
def cvtInt (dst : FpFmt) (fcr : Word) (v : Int) : FpAnswer :=
  if v = 0 then .exact (dst.zero false) else dst.finish fcr (decide (v < 0)) v.natAbs 0 false

/-- CVT.S.L and CVT.D.L: unimplemented outside the range of 56 bits. -/
def cvtLong (dst : FpFmt) (fcr : Word) (v : Int) : FpAnswer :=
  if 2 ^ 55 ≤ v ∨ v < -2 ^ 55 then .unimplemented else cvtInt dst fcr v

/-! ### Conversion to fixed point (R473) -/

/-- The fixed-point formats. -/
inductive FxFmt where
  /-- W, 32 bits -/
  | word
  /-- L, 64 bits -/
  | long
  deriving DecidableEq, Repr

/-- Is an operand out of the range of the conversion: for W by the rounded integer, for L by the operand? -/
def FxFmt.outOfRange (dst : FxFmt) (v : Int) (mant : Nat) (exp : Int) : Bool :=
  match dst with
  | .word => decide (2 ^ 31 ≤ v ∨ v < -2 ^ 31)
  | .long => decide (53 ≤ (mant.log2 : Int) + exp)

/-- `FpToFixed(dst, mode)` (R473); the integer is written in two's complement. -/
def toFixed (src : FpFmt) (dst : FxFmt) (mode : Rounding) (a : Dword) : FpAnswer :=
  match src.classify a with
  | .zero _ => .exact 0#64
  | .normal n m e =>
    let r := roundTo mode n m e false 0
    let v := signedInt n r.1
    if dst.outOfRange v m e then .unimplemented
    else { exc := if r.2 then fpI else fpNone, val := BitVec.ofInt 64 v }
  | _ => .unimplemented

/-! ### Compare (R456) -/

/-- The value of a pattern that is no NaN, in units of the smallest subnormal's order: patterns of one sign
order as their magnitude bits do, and -0 equals +0 (log 24). -/
def FpFmt.orderKey (f : FpFmt) (v : Dword) : Int := signedInt (f.neg v) (v.toNat % 2 ^ (f.frac + f.expBits))

/-- Is either operand a NaN? -/
def FpFmt.unordered (f : FpFmt) (a b : Dword) : Bool := (f.classify a).isNaN || (f.classify b).isNaN

/-- The causes of a comparison (R456): V for an S-NaN, and for any NaN when `cond[3]` is set. -/
def FpFmt.compareExc (f : FpFmt) (cond : BitVec 4) (a b : Dword) : FpExc :=
  if f.unordered a b && (cond.getLsbD 3 || (f.classify a).isSNaN || (f.classify b).isSNaN) then fpV else fpNone

/-- The compare bit (R456). -/
def FpFmt.compare (f : FpFmt) (cond : BitVec 4) (a b : Dword) : Bool :=
  let un := f.unordered a b
  let less := !un && decide (f.orderKey a < f.orderKey b)
  let equal := !un && decide (f.orderKey a = f.orderKey b)
  (cond.getLsbD 2 && less) || (cond.getLsbD 1 && equal) || (cond.getLsbD 0 && un)

/-! ### The operations on the state (R430 `FpRead`, `FpWrite`; R432) -/

/-- `FpRead(fmt, i)` for S and D; an S pattern stands in the low 32 bits. -/
def State.fpRead (s : State) (f : FpFmt) (i : FReg) : Dword :=
  match f with
  | .single => zext64 (s.fgr32 i)
  | .double => s.fgr64 i

/-- `FpWrite(fmt, i, v)` for S and D. -/
def State.fpWrite (s : State) (f : FpFmt) (i : FReg) (v : Dword) : State :=
  match f with
  | .single => s.setFgr32 i (lo32 v)
  | .double => s.setFgr64 i v

/-- `FpRead(fmt, i)` for W and L, as the integer it stands for. -/
def State.fxRead (s : State) (f : FxFmt) (i : FReg) : Int :=
  match f with
  | .word => (s.fgr32 i).toInt
  | .long => (s.fgr64 i).toInt

/-- `FpWrite(fmt, i, v)` for W and L. -/
def State.fxWrite (s : State) (f : FxFmt) (i : FReg) (v : Dword) : State :=
  match f with
  | .word => s.setFgr32 i (lo32 v)
  | .long => s.setFgr64 i v

/-- The framework of an operation that writes an S or D register (R432). -/
def State.fpOp (s : State) (dst : FpFmt) (fd : FReg) (ans : FpAnswer) : Result :=
  s.fpSignal ans.exc fun t => .next (t.fpWrite dst fd ans.val)

/-- The framework of an operation that writes a W or L register (R432, R473). -/
def State.fxOp (s : State) (dst : FxFmt) (fd : FReg) (ans : FpAnswer) : Result :=
  s.fpSignal ans.exc fun t => .next (t.fxWrite dst fd ans.val)

/-- `C.cond.fmt` (R456). -/
def State.fpCompare (s : State) (f : FpFmt) (cond : BitVec 4) (fs ft : FReg) : Result :=
  s.fpSignal (f.compareExc cond (s.fpRead f fs) (s.fpRead f ft)) fun t =>
    .next (t.setFcr31 (fcrSetC t.fcr31 (f.compare cond (s.fpRead f fs) (s.fpRead f ft))))

end Sys2Proof.Machine
end

