-- ==== Sys2Proof/Machine/FpuArith.lean ====
section
/-! DEFINITION. Machine/FpuArith.lean: the meanings of FPU arithmetic, conversion, compare (47_fpu_arith R430 to R474).
Every meaning runs after line 4 of the step (10_state R24): `prevPc` is the instruction's own address. -/

namespace Sys2Proof.Machine

/-- `add.s fd, fs, ft` (R436): single. -/
def execAddS (fd : FReg) (fs : FReg) (ft : FReg) (s : State) : Result :=
  s.fpOp .single fd (FpFmt.add .single s.fcr31 (s.fpRead .single fs) (s.fpRead .single ft))

/-- `add.d fd, fs, ft` (R436): double. -/
def execAddD (fd : FReg) (fs : FReg) (ft : FReg) (s : State) : Result :=
  s.fpOp .double fd (FpFmt.add .double s.fcr31 (s.fpRead .double fs) (s.fpRead .double ft))

/-- `sub.s fd, fs, ft` (R437): single. -/
def execSubS (fd : FReg) (fs : FReg) (ft : FReg) (s : State) : Result :=
  s.fpOp .single fd (FpFmt.sub .single s.fcr31 (s.fpRead .single fs) (s.fpRead .single ft))

/-- `sub.d fd, fs, ft` (R437): double. -/
def execSubD (fd : FReg) (fs : FReg) (ft : FReg) (s : State) : Result :=
  s.fpOp .double fd (FpFmt.sub .double s.fcr31 (s.fpRead .double fs) (s.fpRead .double ft))

/-- `mul.s fd, fs, ft` (R438): single. -/
def execMulS (fd : FReg) (fs : FReg) (ft : FReg) (s : State) : Result :=
  s.fpOp .single fd (FpFmt.mul .single s.fcr31 (s.fpRead .single fs) (s.fpRead .single ft))

/-- `mul.d fd, fs, ft` (R438): double. -/
def execMulD (fd : FReg) (fs : FReg) (ft : FReg) (s : State) : Result :=
  s.fpOp .double fd (FpFmt.mul .double s.fcr31 (s.fpRead .double fs) (s.fpRead .double ft))

/-- `div.s fd, fs, ft` (R439): single. -/
def execDivS (fd : FReg) (fs : FReg) (ft : FReg) (s : State) : Result :=
  s.fpOp .single fd (FpFmt.div .single s.fcr31 (s.fpRead .single fs) (s.fpRead .single ft))

/-- `div.d fd, fs, ft` (R439): double. -/
def execDivD (fd : FReg) (fs : FReg) (ft : FReg) (s : State) : Result :=
  s.fpOp .double fd (FpFmt.div .double s.fcr31 (s.fpRead .double fs) (s.fpRead .double ft))

/-- `sqrt.s fd, fs` (R440): single. -/
def execSqrtS (fd : FReg) (fs : FReg) (s : State) : Result :=
  s.fpOp .single fd (FpFmt.sqrt .single s.fcr31 (s.fpRead .single fs))

/-- `sqrt.d fd, fs` (R440): double. -/
def execSqrtD (fd : FReg) (fs : FReg) (s : State) : Result :=
  s.fpOp .double fd (FpFmt.sqrt .double s.fcr31 (s.fpRead .double fs))

/-- `abs.s fd, fs` (R441): clears the sign bit; NaNs and subnormals are classified (R433). -/
def execAbsS (fd : FReg) (fs : FReg) (s : State) : Result :=
  s.fpOp .single fd (FpFmt.abs .single (s.fpRead .single fs))

/-- `abs.d fd, fs` (R441): clears the sign bit; NaNs and subnormals are classified (R433). -/
def execAbsD (fd : FReg) (fs : FReg) (s : State) : Result :=
  s.fpOp .double fd (FpFmt.abs .double (s.fpRead .double fs))

/-- `mov.s fd, fs` (R442): a pure bit copy; FCR31 is not touched. -/
def execMovS (fd : FReg) (fs : FReg) (s : State) : Result :=
  s.checkCop1 (.next (s.fpWrite .single fd (s.fpRead .single fs)))

/-- `mov.d fd, fs` (R442): a pure bit copy; FCR31 is not touched. -/
def execMovD (fd : FReg) (fs : FReg) (s : State) : Result :=
  s.checkCop1 (.next (s.fpWrite .double fd (s.fpRead .double fs)))

/-- `neg.s fd, fs` (R443): inverts the sign bit; NaNs and subnormals are classified (R433). -/
def execNegS (fd : FReg) (fs : FReg) (s : State) : Result :=
  s.fpOp .single fd (FpFmt.negAnswer .single (s.fpRead .single fs))

/-- `neg.d fd, fs` (R443): inverts the sign bit; NaNs and subnormals are classified (R433). -/
def execNegD (fd : FReg) (fs : FReg) (s : State) : Result :=
  s.fpOp .double fd (FpFmt.negAnswer .double (s.fpRead .double fs))

/-- `round.l.s fd, fs` (R444): rounds to nearest. -/
def execRoundLS (fd : FReg) (fs : FReg) (s : State) : Result :=
  s.fxOp .long fd (toFixed .single .long .rn (s.fpRead .single fs))

/-- `round.l.d fd, fs` (R444): rounds to nearest. -/
def execRoundLD (fd : FReg) (fs : FReg) (s : State) : Result :=
  s.fxOp .long fd (toFixed .double .long .rn (s.fpRead .double fs))

/-- `trunc.l.s fd, fs` (R445): rounds toward zero. -/
def execTruncLS (fd : FReg) (fs : FReg) (s : State) : Result :=
  s.fxOp .long fd (toFixed .single .long .rz (s.fpRead .single fs))

/-- `trunc.l.d fd, fs` (R445): rounds toward zero. -/
def execTruncLD (fd : FReg) (fs : FReg) (s : State) : Result :=
  s.fxOp .long fd (toFixed .double .long .rz (s.fpRead .double fs))

/-- `ceil.l.s fd, fs` (R446): rounds toward plus infinity. -/
def execCeilLS (fd : FReg) (fs : FReg) (s : State) : Result :=
  s.fxOp .long fd (toFixed .single .long .rp (s.fpRead .single fs))

/-- `ceil.l.d fd, fs` (R446): rounds toward plus infinity. -/
def execCeilLD (fd : FReg) (fs : FReg) (s : State) : Result :=
  s.fxOp .long fd (toFixed .double .long .rp (s.fpRead .double fs))

/-- `floor.l.s fd, fs` (R447): rounds toward minus infinity. -/
def execFloorLS (fd : FReg) (fs : FReg) (s : State) : Result :=
  s.fxOp .long fd (toFixed .single .long .rm (s.fpRead .single fs))

/-- `floor.l.d fd, fs` (R447): rounds toward minus infinity. -/
def execFloorLD (fd : FReg) (fs : FReg) (s : State) : Result :=
  s.fxOp .long fd (toFixed .double .long .rm (s.fpRead .double fs))

/-- `round.w.s fd, fs` (R448): rounds to nearest. -/
def execRoundWS (fd : FReg) (fs : FReg) (s : State) : Result :=
  s.fxOp .word fd (toFixed .single .word .rn (s.fpRead .single fs))

/-- `round.w.d fd, fs` (R448): rounds to nearest. -/
def execRoundWD (fd : FReg) (fs : FReg) (s : State) : Result :=
  s.fxOp .word fd (toFixed .double .word .rn (s.fpRead .double fs))

/-- `trunc.w.s fd, fs` (R449): rounds toward zero. -/
def execTruncWS (fd : FReg) (fs : FReg) (s : State) : Result :=
  s.fxOp .word fd (toFixed .single .word .rz (s.fpRead .single fs))

/-- `trunc.w.d fd, fs` (R449): rounds toward zero. -/
def execTruncWD (fd : FReg) (fs : FReg) (s : State) : Result :=
  s.fxOp .word fd (toFixed .double .word .rz (s.fpRead .double fs))

/-- `ceil.w.s fd, fs` (R450): rounds toward plus infinity. -/
def execCeilWS (fd : FReg) (fs : FReg) (s : State) : Result :=
  s.fxOp .word fd (toFixed .single .word .rp (s.fpRead .single fs))

/-- `ceil.w.d fd, fs` (R450): rounds toward plus infinity. -/
def execCeilWD (fd : FReg) (fs : FReg) (s : State) : Result :=
  s.fxOp .word fd (toFixed .double .word .rp (s.fpRead .double fs))

/-- `floor.w.s fd, fs` (R451): rounds toward minus infinity. -/
def execFloorWS (fd : FReg) (fs : FReg) (s : State) : Result :=
  s.fxOp .word fd (toFixed .single .word .rm (s.fpRead .single fs))

/-- `floor.w.d fd, fs` (R451): rounds toward minus infinity. -/
def execFloorWD (fd : FReg) (fs : FReg) (s : State) : Result :=
  s.fxOp .word fd (toFixed .double .word .rm (s.fpRead .double fs))

/-- `cvt.s.d fd, fs` (R452): the value rounded to single. -/
def execCvtSD (fd : FReg) (fs : FReg) (s : State) : Result :=
  s.fpOp .single fd (cvtFloat .double .single s.fcr31 (s.fpRead .double fs))

/-- `cvt.s.w fd, fs` (R452): the exact integer, rounded. -/
def execCvtSW (fd : FReg) (fs : FReg) (s : State) : Result :=
  s.fpOp .single fd (cvtInt .single s.fcr31 (s.fxRead .word fs))

/-- `cvt.s.l fd, fs` (R452): the exact integer, rounded; unimplemented outside 56 bits. -/
def execCvtSL (fd : FReg) (fs : FReg) (s : State) : Result :=
  s.fpOp .single fd (cvtLong .single s.fcr31 (s.fxRead .long fs))

/-- `cvt.d.s fd, fs` (R453): the value, always representable. -/
def execCvtDS (fd : FReg) (fs : FReg) (s : State) : Result :=
  s.fpOp .double fd (cvtFloat .single .double s.fcr31 (s.fpRead .single fs))

/-- `cvt.d.w fd, fs` (R453): the exact integer, rounded. -/
def execCvtDW (fd : FReg) (fs : FReg) (s : State) : Result :=
  s.fpOp .double fd (cvtInt .double s.fcr31 (s.fxRead .word fs))

/-- `cvt.d.l fd, fs` (R453): the exact integer, rounded; unimplemented outside 56 bits. -/
def execCvtDL (fd : FReg) (fs : FReg) (s : State) : Result :=
  s.fpOp .double fd (cvtLong .double s.fcr31 (s.fxRead .long fs))

/-- `cvt.w.s fd, fs` (R454): rounds as FCR31.RM says. -/
def execCvtWS (fd : FReg) (fs : FReg) (s : State) : Result :=
  s.fxOp .word fd (toFixed .single .word (fcrRounding s.fcr31) (s.fpRead .single fs))

/-- `cvt.w.d fd, fs` (R454): rounds as FCR31.RM says. -/
def execCvtWD (fd : FReg) (fs : FReg) (s : State) : Result :=
  s.fxOp .word fd (toFixed .double .word (fcrRounding s.fcr31) (s.fpRead .double fs))

/-- `cvt.l.s fd, fs` (R455): rounds as FCR31.RM says. -/
def execCvtLS (fd : FReg) (fs : FReg) (s : State) : Result :=
  s.fxOp .long fd (toFixed .single .long (fcrRounding s.fcr31) (s.fpRead .single fs))

/-- `cvt.l.d fd, fs` (R455): rounds as FCR31.RM says. -/
def execCvtLD (fd : FReg) (fs : FReg) (s : State) : Result :=
  s.fxOp .long fd (toFixed .double .long (fcrRounding s.fcr31) (s.fpRead .double fs))

/-- `c.f.s fs, ft` (R457): condition 0. -/
def execCFS (fs : FReg) (ft : FReg) (s : State) : Result := s.fpCompare .single 0#4 fs ft

/-- `c.f.d fs, ft` (R457): condition 0. -/
def execCFD (fs : FReg) (ft : FReg) (s : State) : Result := s.fpCompare .double 0#4 fs ft

/-- `c.un.s fs, ft` (R458): condition 1. -/
def execCUnS (fs : FReg) (ft : FReg) (s : State) : Result := s.fpCompare .single 1#4 fs ft

/-- `c.un.d fs, ft` (R458): condition 1. -/
def execCUnD (fs : FReg) (ft : FReg) (s : State) : Result := s.fpCompare .double 1#4 fs ft

/-- `c.eq.s fs, ft` (R459): condition 2. -/
def execCEqS (fs : FReg) (ft : FReg) (s : State) : Result := s.fpCompare .single 2#4 fs ft

/-- `c.eq.d fs, ft` (R459): condition 2. -/
def execCEqD (fs : FReg) (ft : FReg) (s : State) : Result := s.fpCompare .double 2#4 fs ft

/-- `c.ueq.s fs, ft` (R460): condition 3. -/
def execCUeqS (fs : FReg) (ft : FReg) (s : State) : Result := s.fpCompare .single 3#4 fs ft

/-- `c.ueq.d fs, ft` (R460): condition 3. -/
def execCUeqD (fs : FReg) (ft : FReg) (s : State) : Result := s.fpCompare .double 3#4 fs ft

/-- `c.olt.s fs, ft` (R461): condition 4. -/
def execCOltS (fs : FReg) (ft : FReg) (s : State) : Result := s.fpCompare .single 4#4 fs ft

/-- `c.olt.d fs, ft` (R461): condition 4. -/
def execCOltD (fs : FReg) (ft : FReg) (s : State) : Result := s.fpCompare .double 4#4 fs ft

/-- `c.ult.s fs, ft` (R462): condition 5. -/
def execCUltS (fs : FReg) (ft : FReg) (s : State) : Result := s.fpCompare .single 5#4 fs ft

/-- `c.ult.d fs, ft` (R462): condition 5. -/
def execCUltD (fs : FReg) (ft : FReg) (s : State) : Result := s.fpCompare .double 5#4 fs ft

/-- `c.ole.s fs, ft` (R463): condition 6. -/
def execCOleS (fs : FReg) (ft : FReg) (s : State) : Result := s.fpCompare .single 6#4 fs ft

/-- `c.ole.d fs, ft` (R463): condition 6. -/
def execCOleD (fs : FReg) (ft : FReg) (s : State) : Result := s.fpCompare .double 6#4 fs ft

/-- `c.ule.s fs, ft` (R464): condition 7. -/
def execCUleS (fs : FReg) (ft : FReg) (s : State) : Result := s.fpCompare .single 7#4 fs ft

/-- `c.ule.d fs, ft` (R464): condition 7. -/
def execCUleD (fs : FReg) (ft : FReg) (s : State) : Result := s.fpCompare .double 7#4 fs ft

/-- `c.sf.s fs, ft` (R465): condition 8. -/
def execCSfS (fs : FReg) (ft : FReg) (s : State) : Result := s.fpCompare .single 8#4 fs ft

/-- `c.sf.d fs, ft` (R465): condition 8. -/
def execCSfD (fs : FReg) (ft : FReg) (s : State) : Result := s.fpCompare .double 8#4 fs ft

/-- `c.ngle.s fs, ft` (R466): condition 9. -/
def execCNgleS (fs : FReg) (ft : FReg) (s : State) : Result := s.fpCompare .single 9#4 fs ft

/-- `c.ngle.d fs, ft` (R466): condition 9. -/
def execCNgleD (fs : FReg) (ft : FReg) (s : State) : Result := s.fpCompare .double 9#4 fs ft

/-- `c.seq.s fs, ft` (R467): condition 10. -/
def execCSeqS (fs : FReg) (ft : FReg) (s : State) : Result := s.fpCompare .single 10#4 fs ft

/-- `c.seq.d fs, ft` (R467): condition 10. -/
def execCSeqD (fs : FReg) (ft : FReg) (s : State) : Result := s.fpCompare .double 10#4 fs ft

/-- `c.ngl.s fs, ft` (R468): condition 11. -/
def execCNglS (fs : FReg) (ft : FReg) (s : State) : Result := s.fpCompare .single 11#4 fs ft

/-- `c.ngl.d fs, ft` (R468): condition 11. -/
def execCNglD (fs : FReg) (ft : FReg) (s : State) : Result := s.fpCompare .double 11#4 fs ft

/-- `c.lt.s fs, ft` (R469): condition 12. -/
def execCLtS (fs : FReg) (ft : FReg) (s : State) : Result := s.fpCompare .single 12#4 fs ft

/-- `c.lt.d fs, ft` (R469): condition 12. -/
def execCLtD (fs : FReg) (ft : FReg) (s : State) : Result := s.fpCompare .double 12#4 fs ft

/-- `c.nge.s fs, ft` (R470): condition 13. -/
def execCNgeS (fs : FReg) (ft : FReg) (s : State) : Result := s.fpCompare .single 13#4 fs ft

/-- `c.nge.d fs, ft` (R470): condition 13. -/
def execCNgeD (fs : FReg) (ft : FReg) (s : State) : Result := s.fpCompare .double 13#4 fs ft

/-- `c.le.s fs, ft` (R471): condition 14. -/
def execCLeS (fs : FReg) (ft : FReg) (s : State) : Result := s.fpCompare .single 14#4 fs ft

/-- `c.le.d fs, ft` (R471): condition 14. -/
def execCLeD (fs : FReg) (ft : FReg) (s : State) : Result := s.fpCompare .double 14#4 fs ft

/-- `c.ngt.s fs, ft` (R472): condition 15. -/
def execCNgtS (fs : FReg) (ft : FReg) (s : State) : Result := s.fpCompare .single 15#4 fs ft

/-- `c.ngt.d fs, ft` (R472): condition 15. -/
def execCNgtD (fs : FReg) (ft : FReg) (s : State) : Result := s.fpCompare .double 15#4 fs ft

end Sys2Proof.Machine
end

