-- ==== Sys2Proof/Machine/FpuMove.lean ====
section
/-! DEFINITION. Machine/FpuMove.lean: the meanings of FPU moves, control registers, branches (46_fpu_move R400 to R411).
Every meaning runs after line 4 of the step (10_state R24): `prevPc` is the instruction's own address. -/

namespace Sys2Proof.Machine

/-- CTC1's write of FCR31 (R407): the write stands, then the value written may trap. -/
def State.writeFcr31 (s : State) (v : Word) : Result :=
  if fpTraps v (fcrCause v) then (s.setFcr31 v).raise .fpe else .next (s.setFcr31 v)

/-- `mfc1 rt, fs` (R402): raw bits, sign-extended. -/
def execMfc1 (rt : Reg) (fs : FReg) (s : State) : Result :=
  s.checkCop1 (.next (s.setX rt (sext64 (s.fgr32 fs))))

/-- `dmfc1 rt, fs` (R403): raw bits. -/
def execDmfc1 (rt : Reg) (fs : FReg) (s : State) : Result :=
  s.checkCop1 (s.check64 (.next (s.setX rt (s.fgr64 fs))))

/-- `cfc1 rt, fs` (R404): only control registers 0 and 31 exist (log 11). -/
def execCfc1 (rt : Reg) (fs : FReg) (s : State) : Result :=
  s.checkCop1 (if fs = 0#5 then .next (s.setX rt (sext64 s.fcr0))
    else if fs = 31#5 then .next (s.setX rt (sext64 s.fcr31))
    else .refused (.noFpControlRegister fs))

/-- `mtc1 rt, fs` (R405): the other half of the cell is kept. -/
def execMtc1 (rt : Reg) (fs : FReg) (s : State) : Result :=
  s.checkCop1 (.next (s.setFgr32 fs (lo32 (s.x rt))))

/-- `dmtc1 rt, fs` (R406): raw bits. -/
def execDmtc1 (rt : Reg) (fs : FReg) (s : State) : Result :=
  s.checkCop1 (s.check64 (.next (s.setFgr64 fs (s.x rt))))

/-- `ctc1 rt, fs` (R407): FCR31 is written even when the value written traps; FCR0 is read-only (log 11). -/
def execCtc1 (rt : Reg) (fs : FReg) (s : State) : Result :=
  s.checkCop1 (if fs = 31#5 then s.writeFcr31 (lo32 (s.x rt) &&& 0x0183FFFF#32)
    else if fs = 0#5 then .next s
    else .refused (.noFpControlRegister fs))

/-- `bc1f offset` (R408): reads the compare bit. -/
def execBc1f (imm : Imm16) (s : State) : Result :=
  s.checkCop1 (.next (s.branch (!fcrC s.fcr31) (s.branchTarget imm)))

/-- `bc1t offset` (R409): reads the compare bit. -/
def execBc1t (imm : Imm16) (s : State) : Result :=
  s.checkCop1 (.next (s.branch (fcrC s.fcr31) (s.branchTarget imm)))

/-- `bc1fl offset` (R410): reads the compare bit. -/
def execBc1fl (imm : Imm16) (s : State) : Result :=
  s.checkCop1 (.next (s.branchLikely (!fcrC s.fcr31) (s.branchTarget imm)))

/-- `bc1tl offset` (R411): reads the compare bit. -/
def execBc1tl (imm : Imm16) (s : State) : Result :=
  s.checkCop1 (.next (s.branchLikely (fcrC s.fcr31) (s.branchTarget imm)))

end Sys2Proof.Machine
end

