-- ==== Sys2Proof/Machine/LoadStore.lean ====
section
/-! DEFINITION. Machine/LoadStore.lean: the meanings of loads and stores (43_load_store R290 to R318).
Every meaning runs after line 4 of the step (10_state R24): `prevPc` is the instruction's own address. -/

namespace Sys2Proof.Machine

/-- What a load linked adds: llbit, and LLAddr from the physical address (R310, R311). -/
def State.setReservation (s : State) (pa : Word) : State :=
  { s with llbit := true, cp0 := { s.cp0 with llAddr := pa >>> 4 } }

/-- SC and SCD (R312): the alignment is always checked; the address is translated and stored to only when
llbit is set; rt receives llbit. -/
def State.storeConditional (s : State) (va : Dword) (n : Nat) (rt : Reg) (written : Word → State) : Result :=
  s.aligned va n .store
    (if s.llbit then s.translated va .store fun pa => .next ((written pa).setX rt 1#64)
     else .next (s.setX rt 0#64))

/-- `lb rt, offset(base)` (R291): a byte, sign-extended. -/
def execLb (rt : Reg) (base : Reg) (imm : Imm16) (s : State) : Result :=
  s.load (s.effectiveAddress base imm) 1 fun pa => .next ((s.afterRead pa 1).setX rt (sext64 (s.bus8 pa)))

/-- `lbu rt, offset(base)` (R292): a byte, zero-extended. -/
def execLbu (rt : Reg) (base : Reg) (imm : Imm16) (s : State) : Result :=
  s.load (s.effectiveAddress base imm) 1 fun pa => .next ((s.afterRead pa 1).setX rt (zext64 (s.bus8 pa)))

/-- `lh rt, offset(base)` (R293): a halfword, sign-extended. -/
def execLh (rt : Reg) (base : Reg) (imm : Imm16) (s : State) : Result :=
  s.load (s.effectiveAddress base imm) 2 fun pa => .next ((s.afterRead pa 2).setX rt (sext64 (s.bus16 pa)))

/-- `lhu rt, offset(base)` (R294): a halfword, zero-extended. -/
def execLhu (rt : Reg) (base : Reg) (imm : Imm16) (s : State) : Result :=
  s.load (s.effectiveAddress base imm) 2 fun pa => .next ((s.afterRead pa 2).setX rt (zext64 (s.bus16 pa)))

/-- `lw rt, offset(base)` (R295): a word, sign-extended. -/
def execLw (rt : Reg) (base : Reg) (imm : Imm16) (s : State) : Result :=
  s.load (s.effectiveAddress base imm) 4 fun pa => .next ((s.afterRead pa 4).setX rt (sext64 (s.bus32 pa)))

/-- `lwu rt, offset(base)` (R296): a word, zero-extended. -/
def execLwu (rt : Reg) (base : Reg) (imm : Imm16) (s : State) : Result :=
  s.check64 (s.load (s.effectiveAddress base imm) 4 fun pa =>
    .next ((s.afterRead pa 4).setX rt (zext64 (s.bus32 pa))))

/-- `ld rt, offset(base)` (R297): a doubleword. -/
def execLd (rt : Reg) (base : Reg) (imm : Imm16) (s : State) : Result :=
  s.check64 (s.load (s.effectiveAddress base imm) 8 fun pa => .next ((s.afterRead pa 8).setX rt (s.bus64 pa)))

/-- `lwl rt, offset(base)` (R298): the high bytes of an unaligned word; no alignment check. -/
def execLwl (rt : Reg) (base : Reg) (imm : Imm16) (s : State) : Result :=
  s.translated (s.effectiveAddress base imm) .load fun pa =>
    .next ((s.afterRead (wordBase pa) 4).setX rt (sext64
      (loadLeft (wordOffset (s.effectiveAddress base imm)) (lo32 (s.x rt)) (s.bus32 (wordBase pa)))))

/-- `lwr rt, offset(base)` (R299): the low bytes of an unaligned word; no alignment check. -/
def execLwr (rt : Reg) (base : Reg) (imm : Imm16) (s : State) : Result :=
  s.translated (s.effectiveAddress base imm) .load fun pa =>
    .next ((s.afterRead (wordBase pa) 4).setX rt (sext64
      (loadRight 3 (wordOffset (s.effectiveAddress base imm)) (lo32 (s.x rt)) (s.bus32 (wordBase pa)))))

/-- `ldl rt, offset(base)` (R300): the high bytes of an unaligned doubleword. -/
def execLdl (rt : Reg) (base : Reg) (imm : Imm16) (s : State) : Result :=
  s.check64 (s.translated (s.effectiveAddress base imm) .load fun pa =>
    .next ((s.afterRead (dwordBase pa) 8).setX rt
      (loadLeft (dwordOffset (s.effectiveAddress base imm)) (s.x rt) (s.bus64 (dwordBase pa)))))

/-- `ldr rt, offset(base)` (R301): the low bytes of an unaligned doubleword. -/
def execLdr (rt : Reg) (base : Reg) (imm : Imm16) (s : State) : Result :=
  s.check64 (s.translated (s.effectiveAddress base imm) .load fun pa =>
    .next ((s.afterRead (dwordBase pa) 8).setX rt
      (loadRight 7 (dwordOffset (s.effectiveAddress base imm)) (s.x rt) (s.bus64 (dwordBase pa)))))

/-- `sb rt, offset(base)` (R302): the low byte. -/
def execSb (rt : Reg) (base : Reg) (imm : Imm16) (s : State) : Result :=
  s.store (s.effectiveAddress base imm) 1 fun pa => .next (s.busWrite8 pa ((s.x rt).extractLsb' 0 8))

/-- `sh rt, offset(base)` (R303): the low halfword, high byte first. -/
def execSh (rt : Reg) (base : Reg) (imm : Imm16) (s : State) : Result :=
  s.store (s.effectiveAddress base imm) 2 fun pa => .next (s.busWrite16 pa ((s.x rt).extractLsb' 0 16))

/-- `sw rt, offset(base)` (R304): the low word, high byte first. -/
def execSw (rt : Reg) (base : Reg) (imm : Imm16) (s : State) : Result :=
  s.store (s.effectiveAddress base imm) 4 fun pa => .next (s.busWrite32 pa (lo32 (s.x rt)))

/-- `sd rt, offset(base)` (R305): the doubleword, high byte first. -/
def execSd (rt : Reg) (base : Reg) (imm : Imm16) (s : State) : Result :=
  s.check64 (s.store (s.effectiveAddress base imm) 8 fun pa => .next (s.busWrite64 pa (s.x rt)))

/-- `swl rt, offset(base)` (R306): the high bytes of the word, read-modify-write of the aligned word. -/
def execSwl (rt : Reg) (base : Reg) (imm : Imm16) (s : State) : Result :=
  s.translated (s.effectiveAddress base imm) .store fun pa =>
    .next ((s.afterRead (wordBase pa) 4).busWrite32 (wordBase pa)
      (storeLeft (wordOffset (s.effectiveAddress base imm)) (lo32 (s.x rt)) (s.bus32 (wordBase pa))))

/-- `swr rt, offset(base)` (R307): the low bytes of the word, read-modify-write of the aligned word. -/
def execSwr (rt : Reg) (base : Reg) (imm : Imm16) (s : State) : Result :=
  s.translated (s.effectiveAddress base imm) .store fun pa =>
    .next ((s.afterRead (wordBase pa) 4).busWrite32 (wordBase pa)
      (storeRight 3 (wordOffset (s.effectiveAddress base imm)) (lo32 (s.x rt)) (s.bus32 (wordBase pa))))

/-- `sdl rt, offset(base)` (R308): the high bytes of the doubleword. -/
def execSdl (rt : Reg) (base : Reg) (imm : Imm16) (s : State) : Result :=
  s.check64 (s.translated (s.effectiveAddress base imm) .store fun pa =>
    .next ((s.afterRead (dwordBase pa) 8).busWrite64 (dwordBase pa)
      (storeLeft (dwordOffset (s.effectiveAddress base imm)) (s.x rt) (s.bus64 (dwordBase pa)))))

/-- `sdr rt, offset(base)` (R309): the low bytes of the doubleword. -/
def execSdr (rt : Reg) (base : Reg) (imm : Imm16) (s : State) : Result :=
  s.check64 (s.translated (s.effectiveAddress base imm) .store fun pa =>
    .next ((s.afterRead (dwordBase pa) 8).busWrite64 (dwordBase pa)
      (storeRight 7 (dwordOffset (s.effectiveAddress base imm)) (s.x rt) (s.bus64 (dwordBase pa)))))

/-- `ll rt, offset(base)` (R310): a word; sets llbit and LLAddr. -/
def execLl (rt : Reg) (base : Reg) (imm : Imm16) (s : State) : Result :=
  s.load (s.effectiveAddress base imm) 4 fun pa =>
    .next (((s.afterRead pa 4).setX rt (sext64 (s.bus32 pa))).setReservation pa)

/-- `lld rt, offset(base)` (R311): a doubleword; sets llbit and LLAddr. -/
def execLld (rt : Reg) (base : Reg) (imm : Imm16) (s : State) : Result :=
  s.check64 (s.load (s.effectiveAddress base imm) 8 fun pa =>
    .next (((s.afterRead pa 8).setX rt (s.bus64 pa)).setReservation pa))

/-- `sc rt, offset(base)` (R312): stores the word only when llbit is set; rt receives llbit. -/
def execSc (rt : Reg) (base : Reg) (imm : Imm16) (s : State) : Result :=
  s.storeConditional (s.effectiveAddress base imm) 4 rt fun pa => s.busWrite32 pa (lo32 (s.x rt))

/-- `scd rt, offset(base)` (R313): stores the doubleword only when llbit is set; rt receives llbit. -/
def execScd (rt : Reg) (base : Reg) (imm : Imm16) (s : State) : Result :=
  s.check64 (s.storeConditional (s.effectiveAddress base imm) 8 rt fun pa => s.busWrite64 pa (s.x rt))

/-- `lwc1 ft, offset(base)` (R314): raw bits; the other half of the cell is kept. -/
def execLwc1 (ft : FReg) (base : Reg) (imm : Imm16) (s : State) : Result :=
  s.checkCop1 (s.load (s.effectiveAddress base imm) 4 fun pa => .next ((s.afterRead pa 4).setFgr32 ft (s.bus32 pa)))

/-- `ldc1 ft, offset(base)` (R315): raw bits; not subject to Check64. -/
def execLdc1 (ft : FReg) (base : Reg) (imm : Imm16) (s : State) : Result :=
  s.checkCop1 (s.load (s.effectiveAddress base imm) 8 fun pa => .next ((s.afterRead pa 8).setFgr64 ft (s.bus64 pa)))

/-- `swc1 ft, offset(base)` (R316): raw bits. -/
def execSwc1 (ft : FReg) (base : Reg) (imm : Imm16) (s : State) : Result :=
  s.checkCop1 (s.store (s.effectiveAddress base imm) 4 fun pa => .next (s.busWrite32 pa (s.fgr32 ft)))

/-- `sdc1 ft, offset(base)` (R317): raw bits. -/
def execSdc1 (ft : FReg) (base : Reg) (imm : Imm16) (s : State) : Result :=
  s.checkCop1 (s.store (s.effectiveAddress base imm) 8 fun pa => .next (s.busWrite64 pa (s.fgr64 ft)))

end Sys2Proof.Machine
end

