-- ==== Sys2Proof/Machine/MulDiv.lean ====
section
/-! DEFINITION. Machine/MulDiv.lean: the meanings of multiply, divide, HI and LO (41_muldiv R230 to R242).
Every meaning runs after line 4 of the step (10_state R24): `prevPc` is the instruction's own address. -/

namespace Sys2Proof.Machine

/-- Write a 64-bit product as two sign-extended words (R242 b). -/
def State.setHalves32 (s : State) (p : Dword) : State := s.setHiLo (sext64 (hi32 p)) (sext64 (lo32 p))

/-- Write a 128-bit product as two doublewords (R234, R235). -/
def State.setHalves64 (s : State) (p : BitVec 128) : State :=
  s.setHiLo (p.extractLsb' 64 64) (p.extractLsb' 0 64)

/-- The signed quotient, truncated toward zero; by zero, -1 for a dividend that is not negative and 1 for a
negative one (R232, R236). The most negative value by -1 wraps to itself. -/
def quotS {n : Nat} (a b : BitVec n) : BitVec n :=
  if b = 0 then (if a.msb then 1 else BitVec.allOnes n) else BitVec.ofInt n (a.toInt.tdiv b.toInt)

/-- The signed remainder, with the dividend's sign; by zero, the dividend (R232, R236). -/
def remS {n : Nat} (a b : BitVec n) : BitVec n := if b = 0 then a else BitVec.ofInt n (a.toInt.tmod b.toInt)

/-- The unsigned quotient; by zero, all ones (R233, R237). -/
def quotU {n : Nat} (a b : BitVec n) : BitVec n :=
  if b = 0 then BitVec.allOnes n else BitVec.ofNat n (a.toNat / b.toNat)

/-- The unsigned remainder; by zero, the dividend (R233, R237). -/
def remU {n : Nat} (a b : BitVec n) : BitVec n := if b = 0 then a else BitVec.ofNat n (a.toNat % b.toNat)

/-- `mult rs, rt` (R230): exact signed product of the low words. -/
def execMult (rs : Reg) (rt : Reg) (s : State) : Result :=
  .next (s.setHalves32 (BitVec.ofInt 64 ((lo32 (s.x rs)).toInt * (lo32 (s.x rt)).toInt)))

/-- `multu rs, rt` (R231): exact unsigned product of the low words. -/
def execMultu (rs : Reg) (rt : Reg) (s : State) : Result :=
  .next (s.setHalves32 (BitVec.ofNat 64 ((lo32 (s.x rs)).toNat * (lo32 (s.x rt)).toNat)))

/-- `div rs, rt` (R232): signed quotient and remainder of the low words; division by zero is defined and
raises nothing. -/
def execDiv (rs : Reg) (rt : Reg) (s : State) : Result :=
  .next (s.setHiLo (sext64 (remS (lo32 (s.x rs)) (lo32 (s.x rt)))) (sext64 (quotS (lo32 (s.x rs)) (lo32
    (s.x rt)))))

/-- `divu rs, rt` (R233): unsigned quotient and remainder of the low words, each half sign-extended. -/
def execDivu (rs : Reg) (rt : Reg) (s : State) : Result :=
  .next (s.setHiLo (sext64 (remU (lo32 (s.x rs)) (lo32 (s.x rt)))) (sext64 (quotU (lo32 (s.x rs)) (lo32
    (s.x rt)))))

/-- `dmult rs, rt` (R234): exact signed 128-bit product. -/
def execDmult (rs : Reg) (rt : Reg) (s : State) : Result :=
  s.check64 (.next (s.setHalves64 (BitVec.ofInt 128 ((s.x rs).toInt * (s.x rt).toInt))))

/-- `dmultu rs, rt` (R235): exact unsigned 128-bit product. -/
def execDmultu (rs : Reg) (rt : Reg) (s : State) : Result :=
  s.check64 (.next (s.setHalves64 (BitVec.ofNat 128 ((s.x rs).toNat * (s.x rt).toNat))))

/-- `ddiv rs, rt` (R236): signed 64-bit quotient and remainder. -/
def execDdiv (rs : Reg) (rt : Reg) (s : State) : Result :=
  s.check64 (.next (s.setHiLo (remS (s.x rs) (s.x rt)) (quotS (s.x rs) (s.x rt))))

/-- `ddivu rs, rt` (R237): unsigned 64-bit quotient and remainder. -/
def execDdivu (rs : Reg) (rt : Reg) (s : State) : Result :=
  s.check64 (.next (s.setHiLo (remU (s.x rs) (s.x rt)) (quotU (s.x rs) (s.x rt))))

/-- `mfhi rd` (R238): all 64 bits of hi. -/
def execMfhi (rd : Reg) (s : State) : Result := .next (s.setX rd s.hi)

/-- `mthi rs` (R239): lo is unchanged. -/
def execMthi (rs : Reg) (s : State) : Result := .next (s.setHiLo (s.x rs) s.lo)

/-- `mflo rd` (R240): all 64 bits of lo. -/
def execMflo (rd : Reg) (s : State) : Result := .next (s.setX rd s.lo)

/-- `mtlo rs` (R241): hi is unchanged. -/
def execMtlo (rs : Reg) (s : State) : Result := .next (s.setHiLo s.hi (s.x rs))

end Sys2Proof.Machine
end

