-- ==== Sys2Proof/Machine/Trap.lean ====
section
/-! DEFINITION. Machine/Trap.lean: the meanings of system call, breakpoint, barrier, cache, traps, COP2 (44_trap_system R340 to R356).
Every meaning runs after line 4 of the step (10_state R24): `prevPc` is the instruction's own address. -/

namespace Sys2Proof.Machine

/-- A conditional trap (R344 to R355). -/
def State.trapIf (s : State) (c : Bool) : Result := if c then s.raise .tr else .next s

/-- `syscall code` (R340): always; the code field is not examined. -/
def execSyscall (_code : BitVec 20) (s : State) : Result := s.raise .sys

/-- `break code` (R341): always; the code field is not examined. -/
def execBreak (_code : BitVec 20) (s : State) : Result := s.raise .bp

/-- `sync` (R342): nothing: accesses are already in order (R103). -/
def execSync (s : State) : Result := .next s

/-- `cache op, offset(base)` (R343): nothing: no address is formed and no exception is raised in any mode
(log 13). -/
def execCache (_op : BitVec 5) (_base : Reg) (_imm : Imm16) (s : State) : Result := .next s

/-- `tge rs, rt` (R344): traps when not less, signed. -/
def execTge (rs : Reg) (rt : Reg) (_code : BitVec 10) (s : State) : Result :=
  s.trapIf (!(s.x rs).slt (s.x rt))

/-- `tgeu rs, rt` (R345): traps when not less, unsigned. -/
def execTgeu (rs : Reg) (rt : Reg) (_code : BitVec 10) (s : State) : Result :=
  s.trapIf (!(s.x rs).ult (s.x rt))

/-- `tlt rs, rt` (R346): traps when less, signed. -/
def execTlt (rs : Reg) (rt : Reg) (_code : BitVec 10) (s : State) : Result :=
  s.trapIf ((s.x rs).slt (s.x rt))

/-- `tltu rs, rt` (R347): traps when less, unsigned. -/
def execTltu (rs : Reg) (rt : Reg) (_code : BitVec 10) (s : State) : Result :=
  s.trapIf ((s.x rs).ult (s.x rt))

/-- `teq rs, rt` (R348): traps when equal. -/
def execTeq (rs : Reg) (rt : Reg) (_code : BitVec 10) (s : State) : Result := s.trapIf (s.x rs == (s.x rt))

/-- `tne rs, rt` (R349): traps when not equal. -/
def execTne (rs : Reg) (rt : Reg) (_code : BitVec 10) (s : State) : Result := s.trapIf (s.x rs != (s.x rt))

/-- `tgei rs, imm` (R350): traps when not less, signed, against the sign-extended immediate. -/
def execTgei (rs : Reg) (imm : Imm16) (s : State) : Result := s.trapIf (!(s.x rs).slt (arithImm imm))

/-- `tgeiu rs, imm` (R351): traps when not less, unsigned, against the sign-extended immediate. -/
def execTgeiu (rs : Reg) (imm : Imm16) (s : State) : Result := s.trapIf (!(s.x rs).ult (arithImm imm))

/-- `tlti rs, imm` (R352): traps when less, signed, against the sign-extended immediate. -/
def execTlti (rs : Reg) (imm : Imm16) (s : State) : Result := s.trapIf ((s.x rs).slt (arithImm imm))

/-- `tltiu rs, imm` (R353): traps when less, unsigned, against the sign-extended immediate. -/
def execTltiu (rs : Reg) (imm : Imm16) (s : State) : Result := s.trapIf ((s.x rs).ult (arithImm imm))

/-- `teqi rs, imm` (R354): traps when equal, against the sign-extended immediate. -/
def execTeqi (rs : Reg) (imm : Imm16) (s : State) : Result := s.trapIf (s.x rs == (arithImm imm))

/-- `tnei rs, imm` (R355): traps when not equal, against the sign-extended immediate. -/
def execTnei (rs : Reg) (imm : Imm16) (s : State) : Result := s.trapIf (s.x rs != (arithImm imm))

/-- `(whole primary opcode 0x12)` (R356): CpU(2) with CU2 clear; with CU2 set nothing of coprocessor 2 is
described (log 10). -/
def execCop2 (_code : BitVec 26) (s : State) : Result := s.checkCop2 (.refused .cop2Undescribed)

end Sys2Proof.Machine
end

