-- ==== Sys2Proof/Machine/Dispatch.lean ====
section
/-! DEFINITION. Machine/Dispatch.lean: one arm per constructor of Instr, one direct call of its meaning
(10_state R24 line 8). -/

namespace Sys2Proof.Machine

def exec (i : Instr) (s : State) : Host.Outcome State Fault Refusal :=
  match i with
  -- 40_integer_alu
  | .nop => Sys2Proof.Machine.execNop s
  | .add rd rs rt => Sys2Proof.Machine.execAdd rd rs rt s
  | .addu rd rs rt => Sys2Proof.Machine.execAddu rd rs rt s
  | .sub rd rs rt => Sys2Proof.Machine.execSub rd rs rt s
  | .subu rd rs rt => Sys2Proof.Machine.execSubu rd rs rt s
  | .and rd rs rt => Sys2Proof.Machine.execAnd rd rs rt s
  | .or rd rs rt => Sys2Proof.Machine.execOr rd rs rt s
  | .xor rd rs rt => Sys2Proof.Machine.execXor rd rs rt s
  | .nor rd rs rt => Sys2Proof.Machine.execNor rd rs rt s
  | .slt rd rs rt => Sys2Proof.Machine.execSlt rd rs rt s
  | .sltu rd rs rt => Sys2Proof.Machine.execSltu rd rs rt s
  | .dadd rd rs rt => Sys2Proof.Machine.execDadd rd rs rt s
  | .daddu rd rs rt => Sys2Proof.Machine.execDaddu rd rs rt s
  | .dsub rd rs rt => Sys2Proof.Machine.execDsub rd rs rt s
  | .dsubu rd rs rt => Sys2Proof.Machine.execDsubu rd rs rt s
  | .addi rt rs imm => Sys2Proof.Machine.execAddi rt rs imm s
  | .addiu rt rs imm => Sys2Proof.Machine.execAddiu rt rs imm s
  | .slti rt rs imm => Sys2Proof.Machine.execSlti rt rs imm s
  | .sltiu rt rs imm => Sys2Proof.Machine.execSltiu rt rs imm s
  | .andi rt rs imm => Sys2Proof.Machine.execAndi rt rs imm s
  | .ori rt rs imm => Sys2Proof.Machine.execOri rt rs imm s
  | .xori rt rs imm => Sys2Proof.Machine.execXori rt rs imm s
  | .lui rt imm => Sys2Proof.Machine.execLui rt imm s
  | .daddi rt rs imm => Sys2Proof.Machine.execDaddi rt rs imm s
  | .daddiu rt rs imm => Sys2Proof.Machine.execDaddiu rt rs imm s
  | .sll rd rt sa => Sys2Proof.Machine.execSll rd rt sa s
  | .srl rd rt sa => Sys2Proof.Machine.execSrl rd rt sa s
  | .sra rd rt sa => Sys2Proof.Machine.execSra rd rt sa s
  | .sllv rd rt rs => Sys2Proof.Machine.execSllv rd rt rs s
  | .srlv rd rt rs => Sys2Proof.Machine.execSrlv rd rt rs s
  | .srav rd rt rs => Sys2Proof.Machine.execSrav rd rt rs s
  | .dsll rd rt sa => Sys2Proof.Machine.execDsll rd rt sa s
  | .dsrl rd rt sa => Sys2Proof.Machine.execDsrl rd rt sa s
  | .dsra rd rt sa => Sys2Proof.Machine.execDsra rd rt sa s
  | .dsllv rd rt rs => Sys2Proof.Machine.execDsllv rd rt rs s
  | .dsrlv rd rt rs => Sys2Proof.Machine.execDsrlv rd rt rs s
  | .dsrav rd rt rs => Sys2Proof.Machine.execDsrav rd rt rs s
  | .dsll32 rd rt sa => Sys2Proof.Machine.execDsll32 rd rt sa s
  | .dsrl32 rd rt sa => Sys2Proof.Machine.execDsrl32 rd rt sa s
  | .dsra32 rd rt sa => Sys2Proof.Machine.execDsra32 rd rt sa s
  -- 41_muldiv
  | .mult rs rt => Sys2Proof.Machine.execMult rs rt s
  | .multu rs rt => Sys2Proof.Machine.execMultu rs rt s
  | .div rs rt => Sys2Proof.Machine.execDiv rs rt s
  | .divu rs rt => Sys2Proof.Machine.execDivu rs rt s
  | .dmult rs rt => Sys2Proof.Machine.execDmult rs rt s
  | .dmultu rs rt => Sys2Proof.Machine.execDmultu rs rt s
  | .ddiv rs rt => Sys2Proof.Machine.execDdiv rs rt s
  | .ddivu rs rt => Sys2Proof.Machine.execDdivu rs rt s
  | .mfhi rd => Sys2Proof.Machine.execMfhi rd s
  | .mthi rs => Sys2Proof.Machine.execMthi rs s
  | .mflo rd => Sys2Proof.Machine.execMflo rd s
  | .mtlo rs => Sys2Proof.Machine.execMtlo rs s
  -- 42_branch_jump
  | .j idx => Sys2Proof.Machine.execJ idx s
  | .jal idx => Sys2Proof.Machine.execJal idx s
  | .jr rs => Sys2Proof.Machine.execJr rs s
  | .jalr rd rs => Sys2Proof.Machine.execJalr rd rs s
  | .beq rs rt imm => Sys2Proof.Machine.execBeq rs rt imm s
  | .bne rs rt imm => Sys2Proof.Machine.execBne rs rt imm s
  | .blez rs imm => Sys2Proof.Machine.execBlez rs imm s
  | .bgtz rs imm => Sys2Proof.Machine.execBgtz rs imm s
  | .beql rs rt imm => Sys2Proof.Machine.execBeql rs rt imm s
  | .bnel rs rt imm => Sys2Proof.Machine.execBnel rs rt imm s
  | .blezl rs imm => Sys2Proof.Machine.execBlezl rs imm s
  | .bgtzl rs imm => Sys2Proof.Machine.execBgtzl rs imm s
  | .bltz rs imm => Sys2Proof.Machine.execBltz rs imm s
  | .bgez rs imm => Sys2Proof.Machine.execBgez rs imm s
  | .bltzl rs imm => Sys2Proof.Machine.execBltzl rs imm s
  | .bgezl rs imm => Sys2Proof.Machine.execBgezl rs imm s
  | .bltzal rs imm => Sys2Proof.Machine.execBltzal rs imm s
  | .bgezal rs imm => Sys2Proof.Machine.execBgezal rs imm s
  | .bltzall rs imm => Sys2Proof.Machine.execBltzall rs imm s
  | .bgezall rs imm => Sys2Proof.Machine.execBgezall rs imm s
  -- 43_load_store
  | .lb rt base imm => Sys2Proof.Machine.execLb rt base imm s
  | .lbu rt base imm => Sys2Proof.Machine.execLbu rt base imm s
  | .lh rt base imm => Sys2Proof.Machine.execLh rt base imm s
  | .lhu rt base imm => Sys2Proof.Machine.execLhu rt base imm s
  | .lw rt base imm => Sys2Proof.Machine.execLw rt base imm s
  | .lwu rt base imm => Sys2Proof.Machine.execLwu rt base imm s
  | .ld rt base imm => Sys2Proof.Machine.execLd rt base imm s
  | .lwl rt base imm => Sys2Proof.Machine.execLwl rt base imm s
  | .lwr rt base imm => Sys2Proof.Machine.execLwr rt base imm s
  | .ldl rt base imm => Sys2Proof.Machine.execLdl rt base imm s
  | .ldr rt base imm => Sys2Proof.Machine.execLdr rt base imm s
  | .sb rt base imm => Sys2Proof.Machine.execSb rt base imm s
  | .sh rt base imm => Sys2Proof.Machine.execSh rt base imm s
  | .sw rt base imm => Sys2Proof.Machine.execSw rt base imm s
  | .sd rt base imm => Sys2Proof.Machine.execSd rt base imm s
  | .swl rt base imm => Sys2Proof.Machine.execSwl rt base imm s
  | .swr rt base imm => Sys2Proof.Machine.execSwr rt base imm s
  | .sdl rt base imm => Sys2Proof.Machine.execSdl rt base imm s
  | .sdr rt base imm => Sys2Proof.Machine.execSdr rt base imm s
  | .ll rt base imm => Sys2Proof.Machine.execLl rt base imm s
  | .lld rt base imm => Sys2Proof.Machine.execLld rt base imm s
  | .sc rt base imm => Sys2Proof.Machine.execSc rt base imm s
  | .scd rt base imm => Sys2Proof.Machine.execScd rt base imm s
  | .lwc1 ft base imm => Sys2Proof.Machine.execLwc1 ft base imm s
  | .ldc1 ft base imm => Sys2Proof.Machine.execLdc1 ft base imm s
  | .swc1 ft base imm => Sys2Proof.Machine.execSwc1 ft base imm s
  | .sdc1 ft base imm => Sys2Proof.Machine.execSdc1 ft base imm s
  -- 44_trap_system
  | .syscall code => Sys2Proof.Machine.execSyscall code s
  | .break_ code => Sys2Proof.Machine.execBreak code s
  | .sync => Sys2Proof.Machine.execSync s
  | .cache op base imm => Sys2Proof.Machine.execCache op base imm s
  | .tge rs rt code => Sys2Proof.Machine.execTge rs rt code s
  | .tgeu rs rt code => Sys2Proof.Machine.execTgeu rs rt code s
  | .tlt rs rt code => Sys2Proof.Machine.execTlt rs rt code s
  | .tltu rs rt code => Sys2Proof.Machine.execTltu rs rt code s
  | .teq rs rt code => Sys2Proof.Machine.execTeq rs rt code s
  | .tne rs rt code => Sys2Proof.Machine.execTne rs rt code s
  | .tgei rs imm => Sys2Proof.Machine.execTgei rs imm s
  | .tgeiu rs imm => Sys2Proof.Machine.execTgeiu rs imm s
  | .tlti rs imm => Sys2Proof.Machine.execTlti rs imm s
  | .tltiu rs imm => Sys2Proof.Machine.execTltiu rs imm s
  | .teqi rs imm => Sys2Proof.Machine.execTeqi rs imm s
  | .tnei rs imm => Sys2Proof.Machine.execTnei rs imm s
  | .cop2 code => Sys2Proof.Machine.execCop2 code s
  -- 45_cp0
  | .mfc0 rt rd => Sys2Proof.Machine.execMfc0 rt rd s
  | .dmfc0 rt rd => Sys2Proof.Machine.execDmfc0 rt rd s
  | .mtc0 rt rd => Sys2Proof.Machine.execMtc0 rt rd s
  | .dmtc0 rt rd => Sys2Proof.Machine.execDmtc0 rt rd s
  | .tlbr => Sys2Proof.Machine.execTlbr s
  | .tlbwi => Sys2Proof.Machine.execTlbwi s
  | .tlbwr => Sys2Proof.Machine.execTlbwr s
  | .tlbp => Sys2Proof.Machine.execTlbp s
  | .eret => Sys2Proof.Machine.execEret s
  -- 46_fpu_move
  | .mfc1 rt fs => Sys2Proof.Machine.execMfc1 rt fs s
  | .dmfc1 rt fs => Sys2Proof.Machine.execDmfc1 rt fs s
  | .cfc1 rt fs => Sys2Proof.Machine.execCfc1 rt fs s
  | .mtc1 rt fs => Sys2Proof.Machine.execMtc1 rt fs s
  | .dmtc1 rt fs => Sys2Proof.Machine.execDmtc1 rt fs s
  | .ctc1 rt fs => Sys2Proof.Machine.execCtc1 rt fs s
  | .bc1f imm => Sys2Proof.Machine.execBc1f imm s
  | .bc1t imm => Sys2Proof.Machine.execBc1t imm s
  | .bc1fl imm => Sys2Proof.Machine.execBc1fl imm s
  | .bc1tl imm => Sys2Proof.Machine.execBc1tl imm s
  -- 47_fpu_arith
  | .addS fd fs ft => Sys2Proof.Machine.execAddS fd fs ft s
  | .addD fd fs ft => Sys2Proof.Machine.execAddD fd fs ft s
  | .subS fd fs ft => Sys2Proof.Machine.execSubS fd fs ft s
  | .subD fd fs ft => Sys2Proof.Machine.execSubD fd fs ft s
  | .mulS fd fs ft => Sys2Proof.Machine.execMulS fd fs ft s
  | .mulD fd fs ft => Sys2Proof.Machine.execMulD fd fs ft s
  | .divS fd fs ft => Sys2Proof.Machine.execDivS fd fs ft s
  | .divD fd fs ft => Sys2Proof.Machine.execDivD fd fs ft s
  | .sqrtS fd fs => Sys2Proof.Machine.execSqrtS fd fs s
  | .sqrtD fd fs => Sys2Proof.Machine.execSqrtD fd fs s
  | .absS fd fs => Sys2Proof.Machine.execAbsS fd fs s
  | .absD fd fs => Sys2Proof.Machine.execAbsD fd fs s
  | .movS fd fs => Sys2Proof.Machine.execMovS fd fs s
  | .movD fd fs => Sys2Proof.Machine.execMovD fd fs s
  | .negS fd fs => Sys2Proof.Machine.execNegS fd fs s
  | .negD fd fs => Sys2Proof.Machine.execNegD fd fs s
  | .roundLS fd fs => Sys2Proof.Machine.execRoundLS fd fs s
  | .roundLD fd fs => Sys2Proof.Machine.execRoundLD fd fs s
  | .truncLS fd fs => Sys2Proof.Machine.execTruncLS fd fs s
  | .truncLD fd fs => Sys2Proof.Machine.execTruncLD fd fs s
  | .ceilLS fd fs => Sys2Proof.Machine.execCeilLS fd fs s
  | .ceilLD fd fs => Sys2Proof.Machine.execCeilLD fd fs s
  | .floorLS fd fs => Sys2Proof.Machine.execFloorLS fd fs s
  | .floorLD fd fs => Sys2Proof.Machine.execFloorLD fd fs s
  | .roundWS fd fs => Sys2Proof.Machine.execRoundWS fd fs s
  | .roundWD fd fs => Sys2Proof.Machine.execRoundWD fd fs s
  | .truncWS fd fs => Sys2Proof.Machine.execTruncWS fd fs s
  | .truncWD fd fs => Sys2Proof.Machine.execTruncWD fd fs s
  | .ceilWS fd fs => Sys2Proof.Machine.execCeilWS fd fs s
  | .ceilWD fd fs => Sys2Proof.Machine.execCeilWD fd fs s
  | .floorWS fd fs => Sys2Proof.Machine.execFloorWS fd fs s
  | .floorWD fd fs => Sys2Proof.Machine.execFloorWD fd fs s
  | .cvtSD fd fs => Sys2Proof.Machine.execCvtSD fd fs s
  | .cvtSW fd fs => Sys2Proof.Machine.execCvtSW fd fs s
  | .cvtSL fd fs => Sys2Proof.Machine.execCvtSL fd fs s
  | .cvtDS fd fs => Sys2Proof.Machine.execCvtDS fd fs s
  | .cvtDW fd fs => Sys2Proof.Machine.execCvtDW fd fs s
  | .cvtDL fd fs => Sys2Proof.Machine.execCvtDL fd fs s
  | .cvtWS fd fs => Sys2Proof.Machine.execCvtWS fd fs s
  | .cvtWD fd fs => Sys2Proof.Machine.execCvtWD fd fs s
  | .cvtLS fd fs => Sys2Proof.Machine.execCvtLS fd fs s
  | .cvtLD fd fs => Sys2Proof.Machine.execCvtLD fd fs s
  | .cFS fs ft => Sys2Proof.Machine.execCFS fs ft s
  | .cFD fs ft => Sys2Proof.Machine.execCFD fs ft s
  | .cUnS fs ft => Sys2Proof.Machine.execCUnS fs ft s
  | .cUnD fs ft => Sys2Proof.Machine.execCUnD fs ft s
  | .cEqS fs ft => Sys2Proof.Machine.execCEqS fs ft s
  | .cEqD fs ft => Sys2Proof.Machine.execCEqD fs ft s
  | .cUeqS fs ft => Sys2Proof.Machine.execCUeqS fs ft s
  | .cUeqD fs ft => Sys2Proof.Machine.execCUeqD fs ft s
  | .cOltS fs ft => Sys2Proof.Machine.execCOltS fs ft s
  | .cOltD fs ft => Sys2Proof.Machine.execCOltD fs ft s
  | .cUltS fs ft => Sys2Proof.Machine.execCUltS fs ft s
  | .cUltD fs ft => Sys2Proof.Machine.execCUltD fs ft s
  | .cOleS fs ft => Sys2Proof.Machine.execCOleS fs ft s
  | .cOleD fs ft => Sys2Proof.Machine.execCOleD fs ft s
  | .cUleS fs ft => Sys2Proof.Machine.execCUleS fs ft s
  | .cUleD fs ft => Sys2Proof.Machine.execCUleD fs ft s
  | .cSfS fs ft => Sys2Proof.Machine.execCSfS fs ft s
  | .cSfD fs ft => Sys2Proof.Machine.execCSfD fs ft s
  | .cNgleS fs ft => Sys2Proof.Machine.execCNgleS fs ft s
  | .cNgleD fs ft => Sys2Proof.Machine.execCNgleD fs ft s
  | .cSeqS fs ft => Sys2Proof.Machine.execCSeqS fs ft s
  | .cSeqD fs ft => Sys2Proof.Machine.execCSeqD fs ft s
  | .cNglS fs ft => Sys2Proof.Machine.execCNglS fs ft s
  | .cNglD fs ft => Sys2Proof.Machine.execCNglD fs ft s
  | .cLtS fs ft => Sys2Proof.Machine.execCLtS fs ft s
  | .cLtD fs ft => Sys2Proof.Machine.execCLtD fs ft s
  | .cNgeS fs ft => Sys2Proof.Machine.execCNgeS fs ft s
  | .cNgeD fs ft => Sys2Proof.Machine.execCNgeD fs ft s
  | .cLeS fs ft => Sys2Proof.Machine.execCLeS fs ft s
  | .cLeD fs ft => Sys2Proof.Machine.execCLeD fs ft s
  | .cNgtS fs ft => Sys2Proof.Machine.execCNgtS fs ft s
  | .cNgtD fs ft => Sys2Proof.Machine.execCNgtD fs ft s

end Sys2Proof.Machine
end

