-- ==== Sys2Proof/Machine/Pipeline.lean ====
section
/-! DEFINITION. Machine/Pipeline.lean: what one step does around the instruction: lines 1 to 5 of the step
(10_state R24), and the placing of a word where the next step fetches. -/

namespace Sys2Proof.Machine

/-- Compare as a value of the 33-bit counter, `Compare || 0b0` (60_exceptions R526). -/
def Cp0.timerTarget (c : Cp0) : BitVec 33 := c.compare ++ 0#1

/-- Does the counter reach or pass Compare in this step (60_exceptions R526)? -/
def State.timerMatches (s : State) : Bool :=
  decide ((s.cp0.timerTarget - s.cp0.cnt33 - 1#33).toNat < s.countInc)

/-- `AdvanceTimer()`, line 1 (60_exceptions R526): the counter moves by COUNT_INC; IP[7] is set on a match and
never cleared here. -/
def State.advanceTimer (s : State) : State :=
  { s with cp0 := { s.cp0 with
      cnt33 := s.cp0.cnt33 + BitVec.ofNat 33 s.countInc
      cause := if s.timerMatches then s.cp0.cause ||| 0x00008000#32 else s.cp0.cause } }

/-- The level of the input lines this step samples: the next the platform drives, else the level they have
(60_exceptions R505, log 6). -/
def State.sampledLines (s : State) : BitVec 5 :=
  match s.extIntNext with
  | [] => s.extInt
  | level :: _ => level

/-- Line 2: `Cause.IP[6:2] <- ext_int[4:0]` (60_exceptions R505). -/
def State.sampleInputs (s : State) : State :=
  { s with
    extInt := s.sampledLines
    extIntNext := s.extIntNext.tail
    cp0 := { s.cp0 with
      cause := (s.cp0.cause &&& ~~~0x00007C00#32) ||| (s.sampledLines.setWidth 32 <<< 10) } }

/-- The next value of Random (10_state R34): with Wired > 31 any value; else by the policy, within Wired to 31. -/
def State.nextRandom (s : State) : BitVec 6 :=
  let low := s.cp0.wired.extractLsb' 0 6
  if 31#6 < low then Config.freeRandom s.freeIx
  else
    match s.randomPolicy with
    | .decrement => if s.cp0.random = low then 31#6 else s.cp0.random - 1#6
    | .arbitrary => low + Config.freeRandom s.freeIx % (32#6 - low)

/-- `UpdateRandom()`, line 3 (10_state R34). A free value is drawn once. -/
def State.updateRandom (s : State) : State :=
  { s with cp0 := { s.cp0 with random := s.nextRandom }, freeIx := s.freeIx + 1 }

/-- Line 4: the pcs and the delay-slot flags advance (10_state R24). -/
def State.advancePc (s : State) : State :=
  { s with
    prevPc := s.pc
    pc := s.nextPc
    nextPc := s.nextPc + 4#64
    inDelaySlot := s.branchPending
    branchPending := false }

/-- Lines 1 to 4 of the step (10_state R24). -/
def State.beginStep (s : State) : State := s.advanceTimer.sampleInputs.updateRandom.advancePc

/-- `InterruptCondition()`, line 5 (60_exceptions R506). -/
def State.interruptCondition (s : State) : Bool :=
  s.ie && !s.exl && !s.erl && s.interruptsPending != 0#8

/-- The instruction after the interrupt check (lines 6 and 7, 10_state R24): fetch at `prevPc`, decode, go on
with the state after the fetch and the instruction; a word no row of the table matches raises RI (44_trap_system
R357). -/
def State.fetchDecode (s : State) (k : State → Instr → Result) : Result :=
  s.fetch s.prevPc fun t w =>
    match decode w with
    | .ok i => k t i
    | .error _ => t.raise .ri

/-- Make sure that the word at a physical address is memory: where the platform's map says otherwise, RAM goes
before it (log 19). -/
def State.withMemoryAt (s : State) (pa : Word) : State :=
  if s.isMemory pa then s
  else { s with busMap := { first := pa, last := pa + 3#32, kind := .ram } :: s.busMap }

/-- Memory with a word where the next step fetches, when that address has a translation. -/
def State.placeWord (s : State) (w : Word) : State :=
  match s.translate s.pc .fetch with
  | .ok pa => (s.withMemoryAt pa).setMem (s.mem.write32 pa w)
  | .error _ => s

end Sys2Proof.Machine
end

