-- ==== Sys2Proof/Machine/Step.lean ====
section
/-! DEFINITION. Machine/Step.lean: the step (10_state R24), and the word the next step fetches. -/

namespace Sys2Proof.Machine

/-- One step (10_state R24): no step with KSU = 3 outside exception and error level (R54, U8); the
timer, the input lines, Random and the pcs advance; a pending enabled interrupt is taken in the place of the
instruction; else the instruction is fetched, decoded and executed. -/
def step (s : State) : Host.Outcome State Fault Refusal :=
  if s.mode = .undefined then .refused .noMode
  else if s.beginStep.interruptCondition then s.beginStep.raise .int
  else s.beginStep.fetchDecode fun t i => exec i t

/-- `s` with an instruction stored where the next step fetches (log 19): the word at the translation of `pc`,
in the byte order of 20_memory R82. Every instruction is 32 bits. -/
def State.withFetchWord (s : State) (nbits w : Nat) : State := s.placeWord (BitVec.ofNat 32 (w % 2 ^ nbits))

end Sys2Proof.Machine
end

