-- ==== Sys2Proof/Safety.lean ====
section
/-! DEFINITION. Safety.lean: the words the claims are stated in: the pieces of the state and what an
instruction leaves of them, what it is for an instruction to complete, the states the spec's layouts allow,
and the exact meaning of a floating-point result. Nothing here is called by the machine. -/

namespace Sys2Proof.Machine

/-! ### Frames: the pieces of the state (10_state) -/

/-- The registers of coprocessor 0 (10_state R32); `count` stands for the whole counter. -/
inductive Cp0Reg where
  | index | random | entryLo0 | entryLo1 | context | pageMask | wired | badVAddr | count | entryHi | compare
  | status | cause | epc | prid | config | llAddr | watchLo | watchHi | xContext | parityError | cacheError
  | tagLo | tagHi | errorEpc
  deriving DecidableEq, Repr

/-- The pieces of the state: one for each register, each TLB entry, each byte of physical memory. -/
inductive Part where
  | gpr (r : Reg) | hi | lo | pc | nextPc | prevPc | branchPending | inDelaySlot | llbit
  | fpr (i : FReg) | fcr0 | fcr31 | cp0 (r : Cp0Reg) | tlb (i : Fin 32) | byte (a : Nat)
  | busMap | busTrace | extInt | extIntNext | countInc | randomPolicy | freeIx
  deriving DecidableEq, Repr

/-- Do two coprocessors hold the same in a register? -/
def Cp0.agree (c d : Cp0) : Cp0Reg → Prop
  | .index => d.index = c.index
  | .random => d.random = c.random
  | .entryLo0 => d.entryLo0 = c.entryLo0
  | .entryLo1 => d.entryLo1 = c.entryLo1
  | .context => d.context = c.context
  | .pageMask => d.pageMask = c.pageMask
  | .wired => d.wired = c.wired
  | .badVAddr => d.badVAddr = c.badVAddr
  | .count => d.cnt33 = c.cnt33
  | .entryHi => d.entryHi = c.entryHi
  | .compare => d.compare = c.compare
  | .status => d.status = c.status
  | .cause => d.cause = c.cause
  | .epc => d.epc = c.epc
  | .prid => d.prid = c.prid
  | .config => d.config = c.config
  | .llAddr => d.llAddr = c.llAddr
  | .watchLo => d.watchLo = c.watchLo
  | .watchHi => d.watchHi = c.watchHi
  | .xContext => d.xContext = c.xContext
  | .parityError => d.parityError = c.parityError
  | .cacheError => d.cacheError = c.cacheError
  | .tagLo => d.tagLo = c.tagLo
  | .tagHi => d.tagHi = c.tagHi
  | .errorEpc => d.errorEpc = c.errorEpc

/-- Do two states hold the same in a piece? -/
def State.agree (s t : State) : Part → Prop
  | .gpr r => t.x r = s.x r
  | .hi => t.hi = s.hi
  | .lo => t.lo = s.lo
  | .pc => t.pc = s.pc
  | .nextPc => t.nextPc = s.nextPc
  | .prevPc => t.prevPc = s.prevPc
  | .branchPending => t.branchPending = s.branchPending
  | .inDelaySlot => t.inDelaySlot = s.inDelaySlot
  | .llbit => t.llbit = s.llbit
  | .fpr i => t.fpr[i.toNat]'i.isLt = s.fpr[i.toNat]'i.isLt
  | .fcr0 => t.fcr0 = s.fcr0
  | .fcr31 => t.fcr31 = s.fcr31
  | .cp0 r => s.cp0.agree t.cp0 r
  | .tlb i => t.tlb[i] = s.tlb[i]
  | .byte a => t.mem.read a = s.mem.read a
  | .busMap => t.busMap = s.busMap
  | .busTrace => t.busTrace = s.busTrace
  | .extInt => t.extInt = s.extInt
  | .extIntNext => t.extIntNext = s.extIntNext
  | .countInc => t.countInc = s.countInc
  | .randomPolicy => t.randomPolicy = s.randomPolicy
  | .freeIx => t.freeIx = s.freeIx

/-- Going from `s` to `t` changes nothing but the pieces of `w`. -/
def State.changesOnly (s t : State) (w : Part → Prop) : Prop := ∀ p, ¬ w p → s.agree t p

/-- No piece. -/
def nothing : Part → Prop := fun _ => False

/-- The `n` bytes from a physical address on. -/
def bytesAt (pa : Word) (n : Nat) : Part → Prop := fun p => ∃ k, k < n ∧ p = .byte (pa.toNat + k)

/-! ### What an instruction does -/

/-- The instruction answers a next state, which changes nothing but `w` and of which `post` holds. -/
def completes (i : Instr) (s : State) (w : Part → Prop) (post : State → Prop) : Prop :=
  ∃ t, exec i s = .next t ∧ s.changesOnly t w ∧ post t

/-- The instruction completes, writes `v` to a general register and changes nothing else; x[0] discards the
write (10_state R20). -/
def writesGpr (i : Instr) (s : State) (r : Reg) (v : Dword) : Prop :=
  completes i s (· = .gpr r) fun t => t.x r = if r = 0#5 then 0#64 else v

/-- The instruction takes an exception that records no address: the next state is the exception's entry. -/
def raises (i : Instr) (s : State) (e : Exc) : Prop := exec i s = .next (s.takeException e)

/-- The instruction takes an exception after recording the failing address (20_memory R99). -/
def raisesAt (i : Instr) (s : State) (va : Dword) (e : Exc) : Prop :=
  exec i s = .next ((s.recordFaultAddress va).takeException e)

/-- The low `n` bytes of `v` stand in memory from a physical address on, the most significant at the lowest
address (20_memory R82). -/
def State.holdsBytes (t : State) (pa : Word) (n : Nat) (v : Nat) : Prop :=
  ∀ k, k < n → t.mem.read (pa.toNat + k) = BitVec.ofNat 8 (v / 2 ^ (8 * (n - 1 - k)))

/-- The table of 20_memory R98: the exception of a failure class and a kind of access. A fetch or a load never
fails as modified; the row's cell is not used. -/
def raisedBy : XlateFail → Access → Exc
  | .disallowed, .fetch => .adel
  | .disallowed, .load => .adel
  | .disallowed, .store => .ades
  | .miss, .fetch => .tlbl true
  | .miss, .load => .tlbl true
  | .miss, .store => .tlbs true
  | .invalid, .fetch => .tlbl false
  | .invalid, .load => .tlbl false
  | .invalid, .store => .tlbs false
  | .modified, _ => .mod

/-- The `n` bytes from a physical address on, as a number, the lowest address most significant (20_memory R82). -/
def Memory.bigEndian (m : Memory) (pa : Nat) : Nat → Nat
  | 0 => 0
  | n + 1 => Memory.bigEndian m pa n * 256 + (m.read (pa + n)).toNat

/-- An access of `n` bytes reaches the bus: the address is a multiple of `n` and translates to `pa`
(20_memory R83, R84). -/
def State.reaches (s : State) (va : Dword) (n : Nat) (kind : Access) (pa : Word) : Prop :=
  va.toNat % n = 0 ∧ s.translate va kind = .ok pa

/-! ### Bus accesses: memory, device registers, addresses nothing decodes (20_memory R81, R86, R109) -/

/-- `BusRead(pa, n)` as a number: the bytes in RAM and ROM, elsewhere the platform's answer. -/
def State.busNumber (s : State) (pa : Word) (n : Nat) : Nat :=
  if s.isMemory pa then s.mem.bigEndian pa.toNat n
  else (Config.busAnswer s.freeIx s.busTrace pa n).toNat % 256 ^ n

/-- What the platform has seen after `BusRead(pa, n)`: the read, unless it is one of memory. -/
def State.seenAfterRead (s : State) (pa : Word) (n : Nat) : List BusAccess :=
  if s.isMemory pa then s.busTrace
  else { write := false, pa := pa, bytes := n, value := BitVec.ofNat 64 (s.busNumber pa n) } :: s.busTrace

/-- The instruction completes with one bus read of `n` bytes at `pa`; it changes `w`, and what the platform has
seen. -/
def loads (i : Instr) (s : State) (w : Part → Prop) (pa : Word) (n : Nat) (post : State → Prop) : Prop :=
  completes i s (fun p => w p ∨ p = .busTrace) fun t => t.busTrace = s.seenAfterRead pa n ∧ post t

/-- The instruction completes with one bus read of `n` bytes at `pa`, and writes `v` to a general register; x[0]
discards the write (10_state R20). -/
def loadsGpr (i : Instr) (s : State) (r : Reg) (pa : Word) (n : Nat) (v : Dword) : Prop :=
  loads i s (· = .gpr r) pa n fun t => t.x r = if r = 0#5 then 0#64 else v

/-- The pieces one bus write of `n` bytes at `pa` may change: the bytes of RAM, or what a device has seen; a write
to ROM, or where nothing decodes the address, has no effect. -/
def State.storeWrites (s : State) (pa : Word) (n : Nat) (p : Part) : Prop :=
  match s.busKind pa with
  | .ram => bytesAt pa n p
  | .rom => False
  | .device => p = .busTrace
  | .undecoded => False

/-- `t` has the effect of one bus write of the low `n` bytes of `v` at `pa`, made in `s`. -/
def State.stored (s t : State) (pa : Word) (n : Nat) (v : Nat) : Prop :=
  match s.busKind pa with
  | .ram => t.holdsBytes pa n v
  | .rom => True
  | .device => t.busTrace = { write := true, pa := pa, bytes := n, value := BitVec.ofNat 64 (v % 256 ^ n) } :: s.busTrace
  | .undecoded => True

/-- The instruction completes with one bus write of the low `n` bytes of `v` at the physical address `pa`; it
changes nothing else. -/
def storesBytes (i : Instr) (s : State) (pa : Word) (n : Nat) (v : Nat) : Prop :=
  completes i s (s.storeWrites pa n) fun t => s.stored t pa n v

/-- The pieces a partial store may change, of `k` bytes from the `lo`-th on in the `n` bytes at `pa` (20_memory
R109): those bytes of RAM; elsewhere what the platform has seen, the read at least. -/
def State.mergeWrites (s : State) (pa : Word) (lo k : Nat) (p : Part) : Prop :=
  match s.busKind pa with
  | .ram => bytesAt (pa + BitVec.ofNat 32 lo) k p
  | .rom => False
  | .device => p = .busTrace
  | .undecoded => p = .busTrace

/-- `c`, a number of `n` bytes, with the `k` bytes from the `lo`-th most significant on replaced by the low `k`
bytes of `v`. -/
def mergedBytes (n lo k c v : Nat) : Nat :=
  c / 256 ^ (n - lo) * 256 ^ (n - lo) + v % 256 ^ k * 256 ^ (n - lo - k) + c % 256 ^ (n - lo - k)

/-- The instruction completes with one bus read and one bus write of the `n` bytes at `pa` (20_memory R109, 93
U4), of which it replaces `k` from the `lo`-th on by the low `k` bytes of `v`: on RAM those bytes alone change, a
device sees the read and the full-width write, and where the write is lost only a read outside memory is seen. -/
def mergesBytes (i : Instr) (s : State) (pa : Word) (n lo k : Nat) (v : Nat) : Prop :=
  completes i s (s.mergeWrites pa lo k) fun t =>
    match s.busKind pa with
    | .ram => t.holdsBytes (pa + BitVec.ofNat 32 lo) k v
    | .rom => True
    | .device => t.busTrace =
        { write := true, pa := pa, bytes := n, value := BitVec.ofNat 64 (mergedBytes n lo k (s.busNumber pa n) v) }
          :: s.seenAfterRead pa n
    | .undecoded => t.busTrace = s.seenAfterRead pa n

/-- What a load may add to the pieces its rule writes: what the platform has seen, when the access, of the aligned
`n` bytes, is not one of memory. -/
def State.loadSees (s : State) (va : Dword) (n : Nat) (p : Part) : Prop :=
  ∃ pa, s.translate va .load = .ok pa ∧ s.isMemory (pa - BitVec.ofNat 32 (pa.toNat % n)) = false ∧ p = .busTrace

/-- The pieces a store of `n` bytes to an address may change, when the address has a translation. -/
def State.storesAt (s : State) (va : Dword) (n : Nat) (p : Part) : Prop :=
  ∃ pa, s.translate va .store = .ok pa ∧ s.storeWrites pa n p

/-- `t` is the entry of an exception the instruction took in `s`: besides the dispatcher's own writes only the
registers of the failing address and FCR31 may differ (60_exceptions R504). -/
def State.entersFrom (s t : State) : Prop :=
  ∃ u e, t = u.takeException e ∧ s.changesOnly u fun p => p = .cp0 .badVAddr ∨ p = .cp0 .context
    ∨ p = .cp0 .xContext ∨ p = .cp0 .entryHi ∨ p = .fcr31

/-! ### Registers as numbers (00_scope R5, R7) -/

/-- `signed(v[31:0])`. -/
def low32 (v : Dword) : Int := v.toInt.bmod (2 ^ 32)

/-- `unsigned(v[31:0])`. -/
def low32u (v : Dword) : Nat := v.toNat % 2 ^ 32

/-- `sext_64` of the low 32 bits of a number. -/
def word32 (z : Int) : Dword := BitVec.ofInt 64 (z.bmod (2 ^ 32))

/-- The target of a conditional branch at `cur` (42_branch_jump R252). -/
def branchTo (cur : Dword) (imm : Imm16) : Dword := BitVec.ofInt 64 (cur.toInt + 4 + 4 * imm.toInt)

/-- The target of J and JAL at `cur` (42_branch_jump R252). -/
def jumpTo (cur : Dword) (idx : BitVec 26) : Dword :=
  BitVec.ofNat 64 ((cur + 4#64).toNat / 2 ^ 28 * 2 ^ 28 + 4 * idx.toNat)

/-! ### CP0 register writes and exception vectors (45_cp0 R375, 60_exceptions R503) -/

/-- The CP0 registers a write to a register number changes (45_cp0 R375): Wired restarts Random, Compare clears
the timer's pending bit. -/
def Cp0Reg.written : BitVec 5 → List Cp0Reg
  | 0#5 => [.index]
  | 2#5 => [.entryLo0]
  | 3#5 => [.entryLo1]
  | 4#5 => [.context]
  | 5#5 => [.pageMask]
  | 6#5 => [.wired, .random]
  | 9#5 => [.count]
  | 10#5 => [.entryHi]
  | 11#5 => [.compare, .cause]
  | 12#5 => [.status]
  | 13#5 => [.cause]
  | 14#5 => [.epc]
  | 16#5 => [.config]
  | 17#5 => [.llAddr]
  | 18#5 => [.watchLo]
  | 19#5 => [.watchHi]
  | 20#5 => [.xContext]
  | 26#5 => [.parityError]
  | 28#5 => [.tagLo]
  | 30#5 => [.errorEpc]
  | _ => []

/-- What `ReadCP0(n)` answers after `WriteCP0(n, v)`, where it answered `old` before (45_cp0 R370, R375). -/
def cp0Written (n : BitVec 5) (v old : Dword) : Dword :=
  let w := v.setWidth 32
  match n with
  | 0#5 => (w &&& 0x8000003F#32).signExtend 64
  | 2#5 => v &&& 0x3FFFFFFF#64
  | 3#5 => v &&& 0x3FFFFFFF#64
  | 4#5 => (v &&& 0xFFFFFFFFFF800000#64) ||| (old &&& 0x7FFFF0#64)
  | 5#5 => (w &&& 0x01FFE000#32).setWidth 64
  | 6#5 => (w &&& 0x3F#32).setWidth 64
  | 9#5 => w.signExtend 64
  | 10#5 => v &&& 0xC00000FFFFFFE0FF#64
  | 11#5 => w.signExtend 64
  | 12#5 => (w &&& 0xFF57FFFF#32).signExtend 64
  | 13#5 => (old &&& ~~~0x300#64) ||| (v &&& 0x300#64)
  | 14#5 => v
  | 16#5 => ((w &&& 0x0F00800F#32) ||| 0x7006E460#32).signExtend 64
  | 17#5 => w.signExtend 64
  | 18#5 => (w &&& 0xFFFFFFFB#32).signExtend 64
  | 19#5 => (w &&& 0xF#32).setWidth 64
  | 20#5 => (v &&& 0xFFFFFFFE00000000#64) ||| (old &&& 0x1FFFFFFF0#64)
  | 26#5 => (w &&& 0xFF#32).setWidth 64
  | 28#5 => (w &&& 0x0FFFFFC0#32).setWidth 64
  | 30#5 => v
  | _ => old

/-- The addresses exceptions go to (60_exceptions R503). -/
def vectors : List Dword :=
  [0xFFFFFFFF80000000#64, 0xFFFFFFFF80000080#64, 0xFFFFFFFF80000180#64,
   0xFFFFFFFFBFC00200#64, 0xFFFFFFFFBFC00280#64, 0xFFFFFFFFBFC00380#64]

end Sys2Proof.Machine

namespace Sys2Proof

open Sys2Proof.Machine

/-! ### Which instructions make which check, which access (30_encoding R160, R161; 43_load_store) -/

/-- The instructions that make `Check64()` (R160). -/
def Instr.needs64 : Instr → Bool
  | .dadd .. | .daddu .. | .dsub .. | .dsubu .. | .daddi .. | .daddiu .. | .dsll .. | .dsrl .. | .dsra ..
  | .dsllv .. | .dsrlv .. | .dsrav .. | .dsll32 .. | .dsrl32 .. | .dsra32 .. | .dmult .. | .dmultu ..
  | .ddiv .. | .ddivu .. | .ld .. | .sd .. | .ldl .. | .ldr .. | .sdl .. | .sdr .. | .lld .. | .scd ..
  | .lwu .. | .dmfc0 .. | .dmtc0 .. | .dmfc1 .. | .dmtc1 .. => true
  | _ => false

/-- The instructions that make `CheckCop0()` (R161). -/
def Instr.needsCop0 : Instr → Bool
  | .mfc0 .. | .dmfc0 .. | .mtc0 .. | .dmtc0 .. | .tlbr | .tlbwi | .tlbwr | .tlbp | .eret => true
  | _ => false

/-- The instructions that make `CheckCop1()` (R161): every COP1 instruction and the FP loads and stores. -/
def Instr.needsCop1 (i : Instr) : Bool :=
  fOp (encode i) == 0x11#6 ||
    match i with
    | .lwc1 .. | .ldc1 .. | .swc1 .. | .sdc1 .. => true
    | _ => false

/-- Every check the instruction makes before it executes passes. -/
def Instr.usable (i : Instr) (s : State) : Prop :=
  (i.needs64 = true → s.ops64 = true) ∧ (i.needsCop0 = true → s.kernelMode = true ∨ s.cu0 = true)
    ∧ (i.needsCop1 = true → s.cu1 = true)

/-- The loads: base, offset, and the width whose alignment is checked (20_memory R85: 1 for LWL, LWR, LDL,
LDR). -/
def Instr.loadAccess : Instr → Option (Reg × Imm16 × Nat)
  | .lb _ b o | .lbu _ b o | .lwl _ b o | .lwr _ b o | .ldl _ b o | .ldr _ b o => some (b, o, 1)
  | .lh _ b o | .lhu _ b o => some (b, o, 2)
  | .lw _ b o | .lwu _ b o | .ll _ b o | .lwc1 _ b o => some (b, o, 4)
  | .ld _ b o | .lld _ b o | .ldc1 _ b o => some (b, o, 8)
  | _ => none

/-- The stores: base, offset, and the width whose alignment is checked (20_memory R85: 1 for SWL, SWR, SDL,
SDR). -/
def Instr.storeAccess : Instr → Option (Reg × Imm16 × Nat)
  | .sb _ b o | .swl _ b o | .swr _ b o | .sdl _ b o | .sdr _ b o => some (b, o, 1)
  | .sh _ b o => some (b, o, 2)
  | .sw _ b o | .sc _ b o | .swc1 _ b o => some (b, o, 4)
  | .sd _ b o | .scd _ b o | .sdc1 _ b o => some (b, o, 8)
  | _ => none

/-- SC and SCD, which reach the bus only with the reservation held (43_load_store R312). -/
def Instr.conditional : Instr → Bool
  | .sc .. | .scd .. => true
  | _ => false

/-- What an instruction that raises nothing may write, from its own rule: every other piece of the state keeps
its value (40_integer_alu to 47_fpu_arith). -/
def Instr.mayWrite (s : State) : Instr → Part → Prop
  | .nop | .sync | .cache .. | .syscall _ | .break_ _ | .cop2 _ => nothing
  | .tge .. | .tgeu .. | .tlt .. | .tltu .. | .teq .. | .tne .. | .tgei .. | .tgeiu .. | .tlti ..
  | .tltiu .. | .teqi .. | .tnei .. => nothing
  | .add r _ _ | .addu r _ _ | .sub r _ _ | .subu r _ _ | .and r _ _ | .or r _ _ | .xor r _ _ | .nor r _ _
  | .slt r _ _ | .sltu r _ _ | .dadd r _ _ | .daddu r _ _ | .dsub r _ _ | .dsubu r _ _
  | .addi r _ _ | .addiu r _ _ | .slti r _ _ | .sltiu r _ _ | .andi r _ _ | .ori r _ _ | .xori r _ _
  | .lui r _ | .daddi r _ _ | .daddiu r _ _ => (· = .gpr r)
  | .sll r _ _ | .srl r _ _ | .sra r _ _ | .sllv r _ _ | .srlv r _ _ | .srav r _ _ | .dsll r _ _
  | .dsrl r _ _ | .dsra r _ _ | .dsllv r _ _ | .dsrlv r _ _ | .dsrav r _ _ | .dsll32 r _ _
  | .dsrl32 r _ _ | .dsra32 r _ _ => (· = .gpr r)
  | .mult .. | .multu .. | .div .. | .divu .. | .dmult .. | .dmultu .. | .ddiv .. | .ddivu .. =>
    fun p => p = .hi ∨ p = .lo
  | .mfhi r | .mflo r => (· = .gpr r)
  | .mthi _ => (· = .hi)
  | .mtlo _ => (· = .lo)
  | .j _ | .jr _ | .beq .. | .bne .. | .blez .. | .bgtz .. | .bltz .. | .bgez .. | .bc1f _ | .bc1t _ =>
    fun p => p = .branchPending ∨ p = .nextPc
  | .jal _ | .bltzal .. | .bgezal .. => fun p => p = .branchPending ∨ p = .nextPc ∨ p = .gpr 31#5
  | .jalr r _ => fun p => p = .branchPending ∨ p = .nextPc ∨ p = .gpr r
  | .beql .. | .bnel .. | .blezl .. | .bgtzl .. | .bltzl .. | .bgezl .. | .bc1fl _ | .bc1tl _ =>
    fun p => p = .branchPending ∨ p = .nextPc ∨ p = .pc
  | .bltzall .. | .bgezall .. => fun p => p = .branchPending ∨ p = .nextPc ∨ p = .pc ∨ p = .gpr 31#5
  | .lb r b o | .lbu r b o => fun p => p = .gpr r ∨ s.loadSees (s.effectiveAddress b o) 1 p
  | .lh r b o | .lhu r b o => fun p => p = .gpr r ∨ s.loadSees (s.effectiveAddress b o) 2 p
  | .lw r b o | .lwu r b o | .lwl r b o | .lwr r b o =>
    fun p => p = .gpr r ∨ s.loadSees (s.effectiveAddress b o) 4 p
  | .ld r b o | .ldl r b o | .ldr r b o => fun p => p = .gpr r ∨ s.loadSees (s.effectiveAddress b o) 8 p
  | .ll r b o => fun p => p = .gpr r ∨ p = .llbit ∨ p = .cp0 .llAddr ∨ s.loadSees (s.effectiveAddress b o) 4 p
  | .lld r b o => fun p => p = .gpr r ∨ p = .llbit ∨ p = .cp0 .llAddr ∨ s.loadSees (s.effectiveAddress b o) 8 p
  | .sb _ b o => s.storesAt (s.effectiveAddress b o) 1
  | .sh _ b o => s.storesAt (s.effectiveAddress b o) 2
  | .sw _ b o | .swc1 _ b o => s.storesAt (s.effectiveAddress b o) 4
  | .sd _ b o | .sdc1 _ b o => s.storesAt (s.effectiveAddress b o) 8
  | .swl _ b o => fun p => ∃ pa, s.translate (s.effectiveAddress b o) .store = .ok pa
    ∧ s.mergeWrites (wordBase pa) (pa.toNat % 4) (4 - pa.toNat % 4) p
  | .swr _ b o => fun p => ∃ pa, s.translate (s.effectiveAddress b o) .store = .ok pa
    ∧ s.mergeWrites (wordBase pa) 0 (pa.toNat % 4 + 1) p
  | .sdl _ b o => fun p => ∃ pa, s.translate (s.effectiveAddress b o) .store = .ok pa
    ∧ s.mergeWrites (dwordBase pa) (pa.toNat % 8) (8 - pa.toNat % 8) p
  | .sdr _ b o => fun p => ∃ pa, s.translate (s.effectiveAddress b o) .store = .ok pa
    ∧ s.mergeWrites (dwordBase pa) 0 (pa.toNat % 8 + 1) p
  | .sc r b o => fun p => p = .gpr r ∨ s.llbit = true ∧ s.storesAt (s.effectiveAddress b o) 4 p
  | .scd r b o => fun p => p = .gpr r ∨ s.llbit = true ∧ s.storesAt (s.effectiveAddress b o) 8 p
  | .lwc1 f b o => fun p => p = .fpr (s.fprCell f) ∨ s.loadSees (s.effectiveAddress b o) 4 p
  | .ldc1 f b o => fun p => p = .fpr (s.fprCell f) ∨ s.loadSees (s.effectiveAddress b o) 8 p
  | .mfc0 r _ | .dmfc0 r _ => (· = .gpr r)
  | .mtc0 _ n | .dmtc0 _ n => fun p => ∃ r, r ∈ Cp0Reg.written n ∧ p = .cp0 r
  | .tlbr => fun p => p = .cp0 .pageMask ∨ p = .cp0 .entryHi ∨ p = .cp0 .entryLo0 ∨ p = .cp0 .entryLo1
  | .tlbwi => fun p => ∃ i : Fin 32, i.val = s.indexField.toNat ∧ p = .tlb i
  | .tlbwr => fun p => ∃ i : Fin 32, i.val = s.cp0.random.toNat ∧ p = .tlb i
  | .tlbp => (· = .cp0 .index)
  | .eret => fun p => p = .pc ∨ p = .nextPc ∨ p = .branchPending ∨ p = .llbit ∨ p = .cp0 .status
  | .mfc1 r _ | .dmfc1 r _ | .cfc1 r _ => (· = .gpr r)
  | .mtc1 _ f | .dmtc1 _ f => (· = .fpr (s.fprCell f))
  | .ctc1 .. => (· = .fcr31)
  | .movS f _ | .movD f _ => (· = .fpr (s.fprCell f))
  | .addS f _ _ | .addD f _ _ | .subS f _ _ | .subD f _ _ | .mulS f _ _ | .mulD f _ _ | .divS f _ _
  | .divD f _ _ | .sqrtS f _ | .sqrtD f _ | .absS f _ | .absD f _ | .negS f _ | .negD f _
  | .roundLS f _ | .roundLD f _ | .truncLS f _ | .truncLD f _ | .ceilLS f _ | .ceilLD f _ | .floorLS f _
  | .floorLD f _ | .roundWS f _ | .roundWD f _ | .truncWS f _ | .truncWD f _ | .ceilWS f _ | .ceilWD f _
  | .floorWS f _ | .floorWD f _ | .cvtSD f _ | .cvtSW f _ | .cvtSL f _ | .cvtDS f _ | .cvtDW f _
  | .cvtDL f _ | .cvtWS f _ | .cvtWD f _ | .cvtLS f _ | .cvtLD f _ =>
    fun p => p = .fcr31 ∨ p = .fpr (s.fprCell f)
  | .cFS .. | .cFD .. | .cUnS .. | .cUnD .. | .cEqS .. | .cEqD .. | .cUeqS .. | .cUeqD .. | .cOltS ..
  | .cOltD .. | .cUltS .. | .cUltD .. | .cOleS .. | .cOleD .. | .cUleS .. | .cUleD .. | .cSfS ..
  | .cSfD .. | .cNgleS .. | .cNgleD .. | .cSeqS .. | .cSeqD .. | .cNglS .. | .cNglD .. | .cLtS ..
  | .cLtD .. | .cNgeS .. | .cNgeD .. | .cLeS .. | .cLeD .. | .cNgtS .. | .cNgtD .. => (· = .fcr31)

/-! ### The floating-point instructions by format (47_fpu_arith) -/

/-- ADD.fmt (R436). -/
def Instr.addFmt : FpFmt → FReg → FReg → FReg → Instr
  | .single => .addS
  | .double => .addD

/-- SUB.fmt (R437). -/
def Instr.subFmt : FpFmt → FReg → FReg → FReg → Instr
  | .single => .subS
  | .double => .subD

/-- MUL.fmt (R438). -/
def Instr.mulFmt : FpFmt → FReg → FReg → FReg → Instr
  | .single => .mulS
  | .double => .mulD

/-- DIV.fmt (R439). -/
def Instr.divFmt : FpFmt → FReg → FReg → FReg → Instr
  | .single => .divS
  | .double => .divD

/-- SQRT.fmt (R440). -/
def Instr.sqrtFmt : FpFmt → FReg → FReg → Instr
  | .single => .sqrtS
  | .double => .sqrtD

/-- ABS.fmt (R441). -/
def Instr.absFmt : FpFmt → FReg → FReg → Instr
  | .single => .absS
  | .double => .absD

/-- MOV.fmt (R442). -/
def Instr.movFmt : FpFmt → FReg → FReg → Instr
  | .single => .movS
  | .double => .movD

/-- NEG.fmt (R443). -/
def Instr.negFmt : FpFmt → FReg → FReg → Instr
  | .single => .negS
  | .double => .negD

/-- The conversions to fixed point: ROUND, TRUNC, CEIL and FLOOR carry their mode (R444 to R451). -/
def Instr.toFxFmt : Rounding → FxFmt → FpFmt → FReg → FReg → Instr
  | .rn, .long, .single => .roundLS
  | .rn, .long, .double => .roundLD
  | .rz, .long, .single => .truncLS
  | .rz, .long, .double => .truncLD
  | .rp, .long, .single => .ceilLS
  | .rp, .long, .double => .ceilLD
  | .rm, .long, .single => .floorLS
  | .rm, .long, .double => .floorLD
  | .rn, .word, .single => .roundWS
  | .rn, .word, .double => .roundWD
  | .rz, .word, .single => .truncWS
  | .rz, .word, .double => .truncWD
  | .rp, .word, .single => .ceilWS
  | .rp, .word, .double => .ceilWD
  | .rm, .word, .single => .floorWS
  | .rm, .word, .double => .floorWD

/-- CVT.W.fmt and CVT.L.fmt (R454, R455). -/
def Instr.cvtToFxFmt : FxFmt → FpFmt → FReg → FReg → Instr
  | .word, .single => .cvtWS
  | .word, .double => .cvtWD
  | .long, .single => .cvtLS
  | .long, .double => .cvtLD

/-- CVT.S and CVT.D from W and L (R452, R453). -/
def Instr.cvtFromFxFmt : FpFmt → FxFmt → FReg → FReg → Instr
  | .single, .word => .cvtSW
  | .single, .long => .cvtSL
  | .double, .word => .cvtDW
  | .double, .long => .cvtDL

/-- C.cond.fmt by its condition number (R456 to R472); the last arm is condition 15. -/
def Instr.compareFmt : FpFmt → BitVec 4 → FReg → FReg → Instr
  | .single, 0#4 => .cFS
  | .single, 1#4 => .cUnS
  | .single, 2#4 => .cEqS
  | .single, 3#4 => .cUeqS
  | .single, 4#4 => .cOltS
  | .single, 5#4 => .cUltS
  | .single, 6#4 => .cOleS
  | .single, 7#4 => .cUleS
  | .single, 8#4 => .cSfS
  | .single, 9#4 => .cNgleS
  | .single, 10#4 => .cSeqS
  | .single, 11#4 => .cNglS
  | .single, 12#4 => .cLtS
  | .single, 13#4 => .cNgeS
  | .single, 14#4 => .cLeS
  | .single, _ => .cNgtS
  | .double, 0#4 => .cFD
  | .double, 1#4 => .cUnD
  | .double, 2#4 => .cEqD
  | .double, 3#4 => .cUeqD
  | .double, 4#4 => .cOltD
  | .double, 5#4 => .cUltD
  | .double, 6#4 => .cOleD
  | .double, 7#4 => .cUleD
  | .double, 8#4 => .cSfD
  | .double, 9#4 => .cNgleD
  | .double, 10#4 => .cSeqD
  | .double, 11#4 => .cNglD
  | .double, 12#4 => .cLtD
  | .double, 13#4 => .cNgeD
  | .double, 14#4 => .cLeD
  | .double, _ => .cNgtD

end Sys2Proof

namespace Sys2Proof.Machine

/-! ### The states the layouts of 10_state allow -/

/-- Every reserved bit of coprocessor 0 reads as its layout says, and the read-only registers hold their
constants (10_state R33 to R51). -/
def Cp0.legal (c : Cp0) : Bool :=
  c.index &&& ~~~0x8000003F#32 == 0#32
    && c.entryLo0 &&& ~~~0x3FFFFFFF#64 == 0#64
    && c.entryLo1 &&& ~~~0x3FFFFFFF#64 == 0#64
    && c.context &&& 0xF#64 == 0#64
    && c.pageMask &&& ~~~0x01FFE000#32 == 0#32
    && c.wired &&& ~~~0x0000003F#32 == 0#32
    && c.entryHi &&& ~~~0xC00000FFFFFFE0FF#64 == 0#64
    && c.status &&& ~~~0xFF57FFFF#32 == 0#32
    && c.cause &&& ~~~0xB000FF7C#32 == 0#32
    && c.prid == 0x00000B22#32
    && c.config &&& ~~~0x0F00800F#32 == 0x7006E460#32 &&& ~~~0x0F00800F#32
    && c.config &&& 0x00008000#32 == 0x00008000#32
    && c.watchLo &&& 0x4#32 == 0#32
    && c.watchHi &&& ~~~0xF#32 == 0#32
    && c.xContext &&& 0xF#64 == 0#64
    && c.parityError &&& ~~~0xFF#32 == 0#32
    && c.cacheError == 0#32
    && c.tagLo &&& ~~~0x0FFFFFC0#32 == 0#32
    && c.tagHi == 0#32

/-- Random lies between Wired and 31 when Wired does (10_state R34). -/
def Cp0.randomInRange (c : Cp0) : Bool :=
  decide (31#6 < c.wired.extractLsb' 0 6) || (decide (c.wired.extractLsb' 0 6 ≤ c.random) && decide (c.random ≤ 31#6))

/-- The stored VPN2 is already ANDed with the complement of the mask (10_state R55). -/
def TlbEntry.legal (e : TlbEntry) : Bool := e.vpn2 &&& e.mask.setWidth 27 == 0#27

/-- The invariant of the machine: every reserved bit as its layout says, Random in its range, every TLB entry
as TLBWI writes it, the memory in its canonical form. -/
def State.legal (s : State) : Bool :=
  s.cp0.legal && s.cp0.randomInRange && s.tlb.all TlbEntry.legal && s.mem.wf
    && s.fcr0 == 0x00000A00#32 && s.fcr31 &&& ~~~0x0183FFFF#32 == 0#32

/-! ### Floating-point operands and results as numbers (47_fpu_arith R430, R431, R434) -/

/-- The number a finite pattern stands for, subnormal or not (R430). -/
def FpFmt.number (f : FpFmt) (v : Dword) : ℚ :=
  (if f.neg v then -1 else 1) * (((if f.expField v = 0 then 0 else 2 ^ f.frac) + f.fracField v : ℕ) : ℚ)
    * 2 ^ ((max (f.expField v) 1 : ℕ) - f.bias - f.frac : ℤ)

/-- A normal number. -/
abbrev FpFmt.isNormal (f : FpFmt) (v : Dword) : Prop := 0 < f.expField v ∧ f.expField v < 2 ^ f.expBits - 1

/-- A zero of either sign. -/
abbrev FpFmt.isZero (f : FpFmt) (v : Dword) : Prop := f.expField v = 0 ∧ f.fracField v = 0

/-- A subnormal number. -/
abbrev FpFmt.isSubnormal (f : FpFmt) (v : Dword) : Prop := f.expField v = 0 ∧ f.fracField v ≠ 0

/-- An infinity. -/
abbrev FpFmt.isInf (f : FpFmt) (v : Dword) : Prop := f.expField v = 2 ^ f.expBits - 1 ∧ f.fracField v = 0

/-- A NaN whose fraction's top bit is 0 (R433). -/
abbrev FpFmt.isQNaN (f : FpFmt) (v : Dword) : Prop :=
  f.expField v = 2 ^ f.expBits - 1 ∧ f.fracField v ≠ 0 ∧ f.fracField v < 2 ^ (f.frac - 1)

/-- A NaN whose fraction's top bit is 1 (R433). -/
abbrev FpFmt.isSNaN (f : FpFmt) (v : Dword) : Prop :=
  f.expField v = 2 ^ f.expBits - 1 ∧ 2 ^ (f.frac - 1) ≤ f.fracField v

/-- An operand the arithmetic does not implement (R433). -/
abbrev FpFmt.refuses (f : FpFmt) (v : Dword) : Prop := f.isSubnormal v ∨ f.isQNaN v

/-- FCR31 after an operation that signals `e` and is not trapped (R432): the causes are exactly `e`, the flags
gain them, every other bit is kept. -/
def fcrSignals (before after : Word) (e : FpExc) : Prop :=
  after &&& ~~~0x0003F07C#32 = before &&& ~~~0x0003F07C#32 ∧ fcrCause after = e
    ∧ after.extractLsb' 2 5 = before.extractLsb' 2 5 ||| e.extractLsb' 0 5

/-- FCR31 after an operation that signals `e` and is trapped (R432): only the causes are written. -/
def fcrTraps (before after : Word) (e : FpExc) : Prop :=
  after &&& ~~~0x0003F000#32 = before &&& ~~~0x0003F000#32 ∧ fcrCause after = e

/-- What an operation that signals `e` does (R432): with cause E, or a cause whose enable is set, FPE and
nothing of the result; else it completes, writes FCR31 and the pieces of `w`, and `post` holds. -/
def fpSignals (i : Instr) (s : State) (e : FpExc) (w : Part → Prop) (post : State → Prop) : Prop :=
  if e.getLsbD 5 = true ∨ e.extractLsb' 0 5 &&& fcrEnable s.fcr31 ≠ 0#5 then
    ∃ g, fcrTraps s.fcr31 g e ∧ exec i s = .next ((s.setFcr31 g).takeException .fpe)
  else completes i s (fun p => p = .fcr31 ∨ w p) fun t => fcrSignals s.fcr31 t.fcr31 e ∧ post t

/-- The half of an FPR that a 32-bit write of register `i` does not touch keeps its value (46_fpu_move R401):
with FR = 1 the upper half of the register, with FR = 0 every other 32-bit register. -/
def State.keepsOtherHalf (s t : State) (i : FReg) : Prop :=
  if s.fr then hi32 (t.fgr64 i) = hi32 (s.fgr64 i) else ∀ j, j ≠ i → t.fgr32 j = s.fgr32 j

/-- The FPR cell of a number. -/
def State.fprAt (s : State) (i : FReg) : Dword := s.fpr[i.toNat]'i.isLt

/-- A 32-bit FP register write (46_fpu_move R401). -/
def State.writes32 (s t : State) (i : FReg) (v : Word) : Prop := t.fgr32 i = v ∧ s.keepsOtherHalf t i

/-- The pattern `v` of a format is written (46_fpu_move R401). -/
def State.writesFp (s t : State) (f : FpFmt) (i : FReg) (v : Dword) : Prop :=
  match f with
  | .single => s.writes32 t i (v.setWidth 32)
  | .double => t.fgr64 i = v

/-- The integer `v` is written in a fixed-point format (46_fpu_move R401). -/
def State.writesFx (s t : State) (f : FxFmt) (i : FReg) (v : Int) : Prop :=
  match f with
  | .word => s.writes32 t i (BitVec.ofInt 32 v)
  | .long => t.fgr64 i = BitVec.ofInt 64 v

/-- `r` is `x` rounded to `p` significant bits (R431): `2 ^ q` is the distance between two neighbours there. -/
def roundedTo (mode : Rounding) (p : Nat) (x r : ℝ) : Prop :=
  ∃ q k : ℤ, (2 : ℝ) ^ (q + p - 1) ≤ |x| ∧ |x| < (2 : ℝ) ^ (q + p) ∧ r = k * (2 : ℝ) ^ q ∧
    match mode with
    | .rn => |x - r| ≤ (2 : ℝ) ^ q / 2 ∧ (|x - r| = (2 : ℝ) ^ q / 2 → k % 2 = 0)
    | .rz => |r| ≤ |x| ∧ |x - r| < (2 : ℝ) ^ q
    | .rp => x ≤ r ∧ r - x < (2 : ℝ) ^ q
    | .rm => r ≤ x ∧ x - r < (2 : ℝ) ^ q

/-- The number of significant bits of a format. -/
def FpFmt.precision : FpFmt → Nat
  | .single => 24
  | .double => 53

/-- The exponent of the first power of two above every finite value. -/
def FpFmt.top : FpFmt → ℤ
  | .single => 128
  | .double => 1024

/-- CheckOutput (R434) of the exact result `x`, not 0: what is tiny is flushed or unimplemented; else the
rounding overflows or is the answer's value, inexact when it differs from `x`. -/
def FpFmt.answers (f : FpFmt) (fcr : Word) (x : ℝ) (ans : FpAnswer) : Prop :=
  if |x| < (2 : ℝ) ^ f.emin then
    (if fcrTinyTraps fcr then ans = .unimplemented
     else ans = { exc := fpUI, val := f.flushed (fcrRounding fcr) (decide (x < 0)) })
  else ∃ r, roundedTo (fcrRounding fcr) f.precision x r ∧
    (if (2 : ℝ) ^ f.top ≤ |r| then
      ans = { exc := fpOI, val := f.overflowed (fcrRounding fcr) (decide (x < 0)) }
     else f.isNormal ans.val ∧ ((f.number ans.val : ℚ) : ℝ) = r ∧ (x < 0 ↔ f.neg ans.val = true)
      ∧ (ans.exc = fpNone ∧ r = x ∨ ans.exc = fpI ∧ r ≠ x))

/-- `k` is the integer nearest `x` in the direction of the mode (R473). -/
def roundedToInt (mode : Rounding) (x : ℚ) (k : ℤ) : Prop :=
  match mode with
  | .rn => |x - k| ≤ 1 / 2 ∧ (|x - k| = 1 / 2 → k % 2 = 0)
  | .rz => |(k : ℚ)| ≤ |x| ∧ |x - k| < 1
  | .rp => x ≤ k ∧ k - x < 1
  | .rm => k ≤ x ∧ x - k < 1

/-- Is the operand, or its rounding `k`, inside the range of the conversion (R473)? -/
def FxFmt.inRange (dst : FxFmt) (x : ℚ) (k : ℤ) : Prop :=
  match dst with
  | .word => -2 ^ 31 ≤ k ∧ k < 2 ^ 31
  | .long => |x| < 2 ^ 53

end Sys2Proof.Machine
end

