-- ==== Sys2Proof/Certificates/Slice0/Obligations.lean ====
section
/-! DEFINITION. Certificates/Slice0/Obligations.lean: the statements for the provers. OBLIGATIONS.json lists them
with their tiers, their kinds and the rules of spec/ they rest on. Tests/Slice0.lean shows, for each statement
with hypotheses, a state that meets them. -/

section

open Sys2Proof Sys2Proof.Machine

/-! ### Encoding (30_encoding) -/

/-- Decoding an encoded well-formed instruction gives it back, whatever its operands. -/
def Obligations.DecodeEncodeRoundTrip : Prop :=
  ∀ i : Instr, i.wellFormed = true → decode (encode i) = .ok i

/-- A word decodes only to an instruction whose row of the opcode table it matches (R147 to R153), and encoding that
instruction gives the word back up to the bits the row ignores: the spec has no encoder, and that ours writes 0 in
the `z` fields is the model's choice (log 20). -/
def Obligations.DecodedWordIsItsRow : Prop :=
  ∀ (w : Word) (i : Instr), decode w = .ok i → i.row.holds w = true ∧ encode i = w &&& ~~~i.row.ignored

/-- A word that matches no row of the opcode table, fetched in a step that takes no interrupt, raises RI and
does nothing else: the exception is taken in the state after lines 1 to 4 and the bus read of the fetch (R155,
44_trap_system R357). That the platform's record keeps a fetch from outside memory is the model's choice (log 8). -/
def Obligations.UnallocatedWordRaisesRI : Prop :=
  ∀ (s : State) (pa : Word), s.mode ≠ .undefined → s.beginStep.interruptCondition = false →
    s.reaches s.pc 4 .fetch pa →
    (∀ i : Instr, i.row.holds (BitVec.ofNat 32 (s.beginStep.busNumber pa 4)) = false) →
    step s = .next ((s.beginStep.afterRead pa 4).takeException .ri)

/-- Words written out in the spec's rules decode to the instructions those rules name: R209, R170, R184, R191, R194,
R233, R253, R270, R295, R309, R312, R341, R343, R373, R380, R407, R410, R436, R452, R471, in this order. -/
def Obligations.SpecWordsDecode : Prop :=
  ∀ p ∈ ([(0x00000000#32, .nop), (0x00221820#32, .add 3#5 1#5 2#5), (0x20210001#32, .addi 1#5 1#5 1#16),
      (0x3C028000#32, .lui 2#5 0x8000#16), (0x00021900#32, .sll 3#5 2#5 4#5), (0x0022001B#32, .divu 1#5 2#5),
      (0x08000400#32, .j 0x400#26), (0x04110003#32, .bgezal 0#5 3#16), (0x8C220000#32, .lw 2#5 1#5 0#16),
      (0xB4220005#32, .sdr 2#5 1#5 5#16), (0xE0220000#32, .sc 2#5 1#5 0#16), (0x000001CD#32, .break_ 7#20),
      (0xBC340000#32, .cache 20#5 1#5 0#16), (0x40826000#32, .mtc0 2#5 12#5), (0x42000018#32, .eret),
      (0x44C2F800#32, .ctc1 2#5 31#5), (0x45020003#32, .bc1fl 3#16), (0x46041180#32, .addS 6#5 2#5 4#5),
      (0x46A011A0#32, .cvtSL 6#5 2#5), (0x4624103E#32, .cLeD 2#5 4#5)] : List (Word × Instr)),
    decode p.1 = .ok p.2

/-! ### The step (10_state R24, R54, 60_exceptions R505, R506, R526) -/

/-- When no interrupt is taken, `pc` is aligned and has a translation, and the word the bus answers there decodes to an
instruction, the step is that instruction, run after lines 1 to 4 of the step and the bus read of the fetch, which
in memory changes nothing; that the platform's record keeps a fetch from outside memory is the model's choice (log
8). -/
def Obligations.StepRunsDecodedInstruction : Prop :=
  ∀ (s : State) (pa : Word) (i : Instr), s.mode ≠ .undefined → s.beginStep.interruptCondition = false →
    s.reaches s.pc 4 .fetch pa → decode (BitVec.ofNat 32 (s.beginStep.busNumber pa 4)) = .ok i →
    step s = exec i (s.beginStep.afterRead pa 4)
    ∧ (s.isMemory pa = true → step s = exec i s.beginStep)

/-- Lines 1 to 4 of the step: the counter advances, the input lines are copied to Cause.IP[6:2], Random moves
within its range, the pcs advance and the delay-slot flag is taken over; nothing else changes. The rate, the policy
of Random and the lines to come are fields of the model (logs 3, 4, 6). -/
def Obligations.StepPrologue : Prop :=
  ∀ s : State, let u := s.beginStep
    let low := s.cp0.wired.extractLsb' 0 6
    u.prevPc = s.pc ∧ u.pc = s.nextPc ∧ u.nextPc = s.nextPc + 4#64 ∧ u.inDelaySlot = s.branchPending
    ∧ u.branchPending = false
    ∧ u.cp0.cnt33.toNat = (s.cp0.cnt33.toNat + s.countInc) % 2 ^ 33
    ∧ u.extInt = s.extIntNext.headD s.extInt ∧ u.extIntNext = s.extIntNext.tail
    ∧ (∀ k, k < 5 → u.cp0.cause.getLsbD (10 + k) = u.extInt.getLsbD k)
    ∧ (∀ k, k < 10 ∨ 15 < k → u.cp0.cause.getLsbD k = s.cp0.cause.getLsbD k)
    ∧ (low ≤ 31#6 → s.randomPolicy = .decrement →
        u.cp0.random = if s.cp0.random = low then 31#6 else s.cp0.random - 1#6)
    ∧ (low ≤ 31#6 → s.randomPolicy = .arbitrary → low ≤ u.cp0.random ∧ u.cp0.random ≤ 31#6)
    ∧ s.changesOnly u fun p => p = .prevPc ∨ p = .pc ∨ p = .nextPc ∨ p = .inDelaySlot ∨ p = .branchPending
        ∨ p = .cp0 .count ∨ p = .cp0 .cause ∨ p = .cp0 .random ∨ p = .extInt ∨ p = .extIntNext ∨ p = .freeIx

/-- The timer's pending bit, Cause bit 15, is set by a step exactly when it was set before or the counter, moved
one at a time, is `Compare || 0` somewhere in the step (R526). -/
def Obligations.TimerSetsPendingBit : Prop :=
  ∀ s : State, s.beginStep.cp0.cause.getLsbD 15 = true ↔
    s.cp0.cause.getLsbD 15 = true ∨
      ∃ k, 1 ≤ k ∧ k ≤ s.countInc ∧ (s.cp0.cnt33.toNat + k) % 2 ^ 33 = 2 * s.cp0.compare.toNat

/-- The modes and the width flags that Status derives; where no mode holds the model refuses to step (R54). -/
def Obligations.ModesAreDerived : Prop :=
  ∀ s : State, let st := s.cp0.status
    let kernel := st.getLsbD 1 = true ∨ st.getLsbD 2 = true ∨ st.extractLsb' 3 2 = 0#2
    (s.mode = .kernel ↔ kernel)
    ∧ (s.mode = .supervisor ↔ ¬ kernel ∧ st.extractLsb' 3 2 = 1#2)
    ∧ (s.mode = .user ↔ ¬ kernel ∧ st.extractLsb' 3 2 = 2#2)
    ∧ (s.mode = .kernel → s.addr64 = st.getLsbD 7 ∧ s.ops64 = true)
    ∧ (s.mode = .supervisor → s.addr64 = st.getLsbD 6 ∧ s.ops64 = st.getLsbD 6)
    ∧ (s.mode = .user → s.addr64 = st.getLsbD 5 ∧ s.ops64 = st.getLsbD 5)
    ∧ (¬ kernel ∧ st.extractLsb' 3 2 = 3#2 → step s = .refused .noMode)

/-- The interrupt condition of R506, and the step when it holds after lines 1 to 4: whatever stands at `pc`, the
next state is the interrupt's entry, with EPC the instruction not executed, or the branch before it. -/
def Obligations.InterruptTakenFirst : Prop :=
  ∀ s : State, s.mode ≠ .undefined → let u := s.beginStep
    (u.interruptCondition = true ↔
      u.cp0.status.getLsbD 0 = true ∧ u.cp0.status.getLsbD 1 = false ∧ u.cp0.status.getLsbD 2 = false
        ∧ ∃ k, 8 ≤ k ∧ k < 16 ∧ u.cp0.cause.getLsbD k = true ∧ u.cp0.status.getLsbD k = true)
    ∧ (u.interruptCondition = true → ∃ t, step s = .next t
        ∧ t.cp0.epc = (if s.branchPending then s.pc - 4#64 else s.pc)
        ∧ t.cp0.cause.getLsbD 31 = s.branchPending ∧ t.cp0.cause.extractLsb' 2 5 = 0#5
        ∧ t.pc = (if u.bev then 0xFFFFFFFFBFC00380#64 else 0xFFFFFFFF80000180#64)
        ∧ t.nextPc = t.pc + 4#64 ∧ t.exl = true
        ∧ u.changesOnly t fun p => p = .cp0 .epc ∨ p = .cp0 .cause ∨ p = .cp0 .status ∨ p = .pc ∨ p = .nextPc
            ∨ p = .branchPending ∨ p = .inDelaySlot)

/-- The invariant: every step keeps the reserved bits as the layouts say, Random in its range, every TLB entry
as TLBWI writes it, and the memory in its canonical form. -/
def Obligations.StepKeepsLegal : Prop :=
  ∀ s t : State, s.legal = true → step s = .next t → t.legal = true

/-- The state after reset meets the invariant. The registers the spec leaves unspecified are 0 by the model's
choice (log 1); the invariant holds of them because 0 is within every mask. -/
def Obligations.ResetLegal : Prop := State.reset.legal = true

/-- The values the spec gives for reset (R59): the pcs, the delay-slot controller, the reservation, FCR0 and
FCR31, the CP0 registers of the table, and no TLB entry initialized; kernel mode with 32-bit addressing. -/
def Obligations.ResetState : Prop :=
  let s := State.reset
  s.x 0#5 = 0#64 ∧ s.pc = 0xFFFFFFFFBFC00000#64 ∧ s.nextPc = 0xFFFFFFFFBFC00004#64
  ∧ s.prevPc = 0xFFFFFFFFBFC00000#64 ∧ s.branchPending = false ∧ s.inDelaySlot = false ∧ s.llbit = false
  ∧ s.fcr0 = 0xA00#32 ∧ s.fcr31 = 0#32 ∧ (∀ i : Fin 32, (s.tlb[i]).initialized = false)
  ∧ s.cp0.random = 31#6 ∧ s.cp0.wired = 0#32 ∧ s.cp0.cnt33 = 0#33 ∧ s.cp0.compare = 0#32
  ∧ s.cp0.status = 0x00400004#32 ∧ s.cp0.cause = 0#32 ∧ s.cp0.prid = 0xB22#32 ∧ s.cp0.config = 0x7006E463#32
  ∧ s.cp0.cacheError = 0#32 ∧ s.cp0.tagHi = 0#32
  ∧ s.mode = .kernel ∧ s.addr64 = false ∧ s.ops64 = true ∧ s.interruptsPending = 0#8

/-! ### Exceptions (60_exceptions R501 to R504, 20_memory R99, 45_cp0 R380) -/

/-- Taking an exception, whole: the code and the coprocessor number of R501, BD, CE, EPC only when EXL was clear, EXL,
kernel mode, the vector and its successor, the delay-slot controller, and nothing else. -/
def Obligations.ExceptionEntry : Prop :=
  ∀ (s : State) (e : Exc), let t := s.takeException e
    (e.code, e.ce) = (match e with
        | .int => (0#5, none) | .mod => (1#5, none) | .tlbl _ => (2#5, none) | .tlbs _ => (3#5, none)
        | .adel => (4#5, none) | .ades => (5#5, none) | .sys => (8#5, none) | .bp => (9#5, none)
        | .ri => (10#5, none) | .cpu n => (11#5, some n) | .ov => (12#5, none) | .tr => (13#5, none)
        | .fpe => (15#5, some 0#2))
    ∧ t.cp0.cause.extractLsb' 2 5 = e.code
    ∧ t.cp0.cause.getLsbD 31 = (s.inDelaySlot || (s.exl && s.cp0.cause.getLsbD 31))
    ∧ t.cp0.cause.extractLsb' 28 2 = e.ce.getD (s.cp0.cause.extractLsb' 28 2)
    ∧ t.cp0.cause &&& ~~~0xB000007C#32 = s.cp0.cause &&& ~~~0xB000007C#32
    ∧ t.cp0.epc = (if s.cp0.status.getLsbD 1 then s.cp0.epc
        else if s.inDelaySlot then s.prevPc - 4#64 else s.prevPc)
    ∧ t.cp0.status.getLsbD 1 = true ∧ t.cp0.status &&& ~~~0x2#32 = s.cp0.status &&& ~~~0x2#32
    ∧ t.mode = .kernel ∧ t.addr64 = t.cp0.status.getLsbD 7 ∧ t.ops64 = true
    ∧ t.interruptsPending = s.interruptsPending
    ∧ t.pc = (if s.cp0.status.getLsbD 22 then 0xFFFFFFFFBFC00200#64 else 0xFFFFFFFF80000000#64)
        + (if e.isMiss = true ∧ s.cp0.status.getLsbD 1 = false then (if s.addr64 then 0x80#64 else 0#64)
           else 0x180#64)
    ∧ t.nextPc = t.pc + 4#64 ∧ t.branchPending = false ∧ t.inDelaySlot = false
    ∧ s.changesOnly t fun p => p = .cp0 .cause ∨ p = .cp0 .epc ∨ p = .cp0 .status ∨ p = .pc ∨ p = .nextPc
        ∨ p = .branchPending ∨ p = .inDelaySlot

/-- Every exception goes to one of the six vectors; each is unmapped in kernel mode, so that the handler's first
fetch reaches the bus (R503). -/
def Obligations.VectorsAreUnmapped : Prop :=
  ∀ (s : State) (e : Exc), let t := s.takeException e
    let miss := e.isMiss = true ∧ s.exl = false
    (s.bev = false → ¬ miss → t.pc = 0xFFFFFFFF80000180#64)
    ∧ (s.bev = false → miss → s.addr64 = false → t.pc = 0xFFFFFFFF80000000#64)
    ∧ (s.bev = false → miss → s.addr64 = true → t.pc = 0xFFFFFFFF80000080#64)
    ∧ (s.bev = true → ¬ miss → t.pc = 0xFFFFFFFFBFC00380#64)
    ∧ (s.bev = true → miss → s.addr64 = false → t.pc = 0xFFFFFFFFBFC00200#64)
    ∧ (s.bev = true → miss → s.addr64 = true → t.pc = 0xFFFFFFFFBFC00280#64)
    ∧ ∃ pa, t.reaches t.pc 4 .fetch pa ∧ pa.toNat = t.pc.toNat % 2 ^ 29

/-- What recording a failing address writes: BadVAddr, Context.BadVPN2, XContext.BadVPN2 and R, EntryHi.VPN2 and
R; PTEBase and ASID keep their values (20_memory R99). -/
def Obligations.FailingAddressRecorded : Prop :=
  ∀ (s : State) (va : Dword), let t := s.recordFaultAddress va
    t.cp0.badVAddr = va
    ∧ t.cp0.context.extractLsb' 4 19 = va.extractLsb' 13 19
    ∧ t.cp0.context &&& ~~~0x7FFFF0#64 = s.cp0.context &&& ~~~0x7FFFF0#64
    ∧ t.cp0.xContext.extractLsb' 4 27 = va.extractLsb' 13 27 ∧ t.cp0.xContext.extractLsb' 31 2 = va.extractLsb' 62 2
    ∧ t.cp0.xContext &&& ~~~0x1FFFFFFF0#64 = s.cp0.xContext &&& ~~~0x1FFFFFFF0#64
    ∧ t.cp0.entryHi.extractLsb' 13 27 = va.extractLsb' 13 27 ∧ t.cp0.entryHi.extractLsb' 62 2 = va.extractLsb' 62 2
    ∧ t.cp0.entryHi &&& ~~~0xC00000FFFFFFE000#64 = s.cp0.entryHi &&& ~~~0xC00000FFFFFFE000#64
    ∧ s.changesOnly t fun p => p = .cp0 .badVAddr ∨ p = .cp0 .context ∨ p = .cp0 .xContext ∨ p = .cp0 .entryHi

/-- ERET, where it may run: through ErrorEPC when ERL is set, else through EPC; the latch it came through is
cleared, the pending branch and the reservation are discarded, and nothing else changes (R380). -/
def Obligations.EretReturns : Prop :=
  ∀ s : State, s.kernelMode = true ∨ s.cu0 = true →
    completes .eret s (fun p => p = .pc ∨ p = .nextPc ∨ p = .branchPending ∨ p = .llbit ∨ p = .cp0 .status) fun t =>
      t.pc = (if s.erl then s.cp0.errorEpc else s.cp0.epc) ∧ t.nextPc = t.pc + 4#64
      ∧ t.branchPending = false ∧ t.llbit = false
      ∧ t.cp0.status = (if s.erl then s.cp0.status &&& ~~~0x4#32 else s.cp0.status &&& ~~~0x2#32)

/-- Precise exceptions (R504): an instruction that leaves EXL set where it was clear, and is no write of a CP0
register, has changed nothing but what the dispatcher writes, the registers of the failing address, and
FCR31. -/
def Obligations.ExceptionsArePrecise : Prop :=
  ∀ (i : Instr) (s t : State), exec i s = .next t → s.exl = false → t.exl = true →
    (∀ rt rd, i ≠ .mtc0 rt rd ∧ i ≠ .dmtc0 rt rd) →
    s.changesOnly t fun p => p = .cp0 .cause ∨ p = .cp0 .epc ∨ p = .cp0 .status ∨ p = .pc ∨ p = .nextPc
      ∨ p = .branchPending ∨ p = .inDelaySlot ∨ p = .cp0 .badVAddr ∨ p = .cp0 .context ∨ p = .cp0 .xContext
      ∨ p = .cp0 .entryHi ∨ p = .fcr31

/-- A fault or an interrupt on a delay-slot instruction, taken with EXL clear by a step that is no write of a
CP0 register, records the address of the branch in EPC and sets Cause.BD; on any other instruction EPC is the
instruction and BD is clear (R502). -/
def Obligations.DelaySlotFaultReturnsToBranch : Prop :=
  ∀ s t : State, step s = .next t → s.exl = false → t.exl = true →
    (∀ pa rt rd, s.translate s.pc .fetch = .ok pa →
      let w := s.beginStep.bus32 pa
      decode w ≠ .ok (.mtc0 rt rd) ∧ decode w ≠ .ok (.dmtc0 rt rd)) →
    t.cp0.epc = (if s.branchPending then s.pc - 4#64 else s.pc)
    ∧ t.cp0.cause.getLsbD 31 = s.branchPending

/-! ### The whole machine: what each instruction may change -/

/-- The frame of every instruction: where `exec` answers a next state it is the entry of an exception, or only
the pieces that the instruction's own rule writes have changed. What an access outside RAM may change is the model's
choice (log 8). -/
def Obligations.InstructionFrame : Prop :=
  ∀ (i : Instr) (s t : State), s.mem.wf = true → exec i s = .next t →
    s.entersFrom t ∨ s.changesOnly t (i.mayWrite s)

/-- Rules of the kind "no other instruction touches it": hi and lo (R26), llbit (R30), the compare bit (R57), the
TLB (R55), ErrorEPC (R52), the read-only registers FCR0 (R28), PRId (R46), Cache Error and TagHi (R51), which are
fields of the model that hold constants of the spec (log 7). That the platform's map stays is no rule of the spec: the
map is a field of the model (log 8). -/
def Obligations.WrittenOnlyBy : Prop :=
  ∀ (i : Instr) (s t : State), exec i s = .next t →
    ((∀ a b, i ≠ .mult a b ∧ i ≠ .multu a b ∧ i ≠ .div a b ∧ i ≠ .divu a b ∧ i ≠ .dmult a b ∧ i ≠ .dmultu a b
        ∧ i ≠ .ddiv a b ∧ i ≠ .ddivu a b ∧ i ≠ .mthi a ∧ i ≠ .mtlo a) → t.hi = s.hi ∧ t.lo = s.lo)
    ∧ (t.llbit = s.llbit ∨ (t.llbit = true ∧ ∃ r b o, i = .ll r b o ∨ i = .lld r b o)
        ∨ (t.llbit = false ∧ i = .eret))
    ∧ (t.fcr31.getLsbD 23 = s.fcr31.getLsbD 23 ∨ (∃ f c a b, i = .compareFmt f c a b) ∨ ∃ r, i = .ctc1 r 31#5)
    ∧ (t.tlb = s.tlb ∨ i = .tlbwi ∨ i = .tlbwr)
    ∧ (t.cp0.errorEpc = s.cp0.errorEpc ∨ ∃ r, i = .mtc0 r 30#5 ∨ i = .dmtc0 r 30#5)
    ∧ t.cp0.prid = s.cp0.prid ∧ t.cp0.cacheError = s.cp0.cacheError ∧ t.cp0.tagHi = s.cp0.tagHi ∧ t.fcr0 = s.fcr0
    ∧ t.busMap = s.busMap

/-- User mode without CU0 (60_exceptions R525): a step either enters kernel mode at one of the six vectors with
EXL set, or stays in user mode with Status, the TLB and every CP0 register but the step's own (Count, Random,
Cause) and LLAddr as they were. -/
def Obligations.UserModeIsConfined : Prop :=
  ∀ s t : State, s.mode = .user → s.cu0 = false → step s = .next t →
    (t.mode = .kernel ∧ t.exl = true ∧ t.pc ∈ vectors ∧ t.tlb = s.tlb)
    ∨ (t.mode = .user ∧ t.tlb = s.tlb
        ∧ ∀ r, r ≠ .count → r ≠ .random → r ≠ .cause → r ≠ .llAddr → s.cp0.agree t.cp0 r)

/-- The pc's rule (70_reset_and_hazards R562): after a step the next instruction is the one that was next but
one, unless an exception went to its vector, a likely branch skipped its delay slot, or ERET returned. -/
def Obligations.PcRedirectsAfterOneInstruction : Prop :=
  ∀ s t : State, step s = .next t →
    t.pc = s.nextPc ∨ (t.exl = true ∧ t.pc ∈ vectors)
    ∨ ∃ pa i, s.reaches s.pc 4 .fetch pa ∧ decode (s.beginStep.bus32 pa) = .ok i
        ∧ ((t.pc = s.nextPc + 4#64 ∧ t.nextPc = s.nextPc + 8#64 ∧ t.branchPending = false
              ∧ ((∃ a b o, i = .beql a b o ∨ i = .bnel a b o)
                 ∨ (∃ a o, i = .blezl a o ∨ i = .bgtzl a o ∨ i = .bltzl a o ∨ i = .bgezl a o ∨ i = .bltzall a o
                      ∨ i = .bgezall a o)
                 ∨ ∃ o, i = .bc1fl o ∨ i = .bc1tl o))
          ∨ (i = .eret ∧ t.pc = if s.erl then s.cp0.errorEpc else s.cp0.epc))

/-- The checks a handler makes first. `CheckCop0()`, `CheckCop1()`, `CheckCop2()` (R161): a COP0 instruction
outside kernel mode without CU0 raises CpU(0); a COP1 instruction or FP load or store without CU1 raises CpU(1)
in every mode; a COP2 word without CU2 raises CpU(2), and with CU2 the model refuses it (44_trap_system R356).
`Check64()` (R160), made after them: without 64-bit operations each instruction of its list raises RI and does
nothing else; kernel mode has them, so that there the check passes; and LDC1 and SDC1 complete without them. What
their access leaves outside RAM is the model's choice (log 8). -/
def Obligations.ChecksBeforeExecution : Prop :=
  ∀ (i : Instr) (s : State),
    (i.needsCop0 = true → s.kernelMode = false → s.cu0 = false → raises i s (.cpu 0#2))
    ∧ (i.needsCop1 = true → s.cu1 = false → raises i s (.cpu 1#2))
    ∧ (∀ code, i = .cop2 code → s.cu2 = false → raises i s (.cpu 2#2))
    ∧ (∀ code, i = .cop2 code → s.cu2 = true → exec i s = .refused .cop2Undescribed)
    ∧ (i.needs64 = true → s.ops64 = false → (i.needsCop0 = true → s.kernelMode = true ∨ s.cu0 = true) →
        (i.needsCop1 = true → s.cu1 = true) → raises i s .ri)
    ∧ (s.kernelMode = true → s.ops64 = true)
    ∧ (∀ (ft : FReg) (b : Reg) (o : Imm16) (pa : Word), s.cu1 = true → s.ops64 = false →
        let va := s.effectiveAddress b o
        (s.reaches va 8 .load pa → loads (.ldc1 ft b o) s (· = .fpr (s.fprCell ft)) pa 8 fun t =>
          t.fgr64 ft = BitVec.ofNat 64 (s.busNumber pa 8))
        ∧ (s.mem.wf = true → s.reaches va 8 .store pa → storesBytes (.sdc1 ft b o) s pa 8 (s.fgr64 ft).toNat))

/-! ### Memory and translation (20_memory) -/

/-- Physical memory is big-endian: a read of 1, 2, 4 or 8 bytes is the number whose most significant byte is the
lowest, a write stores that number's bytes and leaves every other, and keeps the canonical form (R82). The bus, a
parameter (R81, R86, 93 U25): the first region of the platform's map that covers an address says what stands there,
RAM where none does. Memory answers its bytes, and the read changes nothing; elsewhere the platform answers and
sees the read. RAM takes a write, a device sees it, ROM and an address nothing decodes lose it. The form of the
map, and the record of what the platform saw, are the model's (log 8). -/
def Obligations.MemoryIsBigEndian : Prop :=
  (∀ (m : Memory) (pa : Word), m.wf = true →
    m.read8 pa = BitVec.ofNat 8 (m.bigEndian pa.toNat 1)
    ∧ (pa.toNat % 2 = 0 → m.read16 pa = BitVec.ofNat 16 (m.bigEndian pa.toNat 2))
    ∧ (pa.toNat % 4 = 0 → m.read32 pa = BitVec.ofNat 32 (m.bigEndian pa.toNat 4))
    ∧ (pa.toNat % 8 = 0 → m.read64 pa = BitVec.ofNat 64 (m.bigEndian pa.toNat 8))
    ∧ (∀ v : Byte, (m.write8 pa v).wf = true ∧ ∀ a, (m.write8 pa v).read a = if a = pa.toNat then v else m.read a)
    ∧ (pa.toNat % 2 = 0 → ∀ v : Half, (m.write16 pa v).wf = true
        ∧ (m.write16 pa v).bigEndian pa.toNat 2 = v.toNat
        ∧ ∀ a, a < pa.toNat ∨ pa.toNat + 2 ≤ a → (m.write16 pa v).read a = m.read a)
    ∧ (pa.toNat % 4 = 0 → ∀ v : Word, (m.write32 pa v).wf = true
        ∧ (m.write32 pa v).bigEndian pa.toNat 4 = v.toNat
        ∧ ∀ a, a < pa.toNat ∨ pa.toNat + 4 ≤ a → (m.write32 pa v).read a = m.read a)
    ∧ (pa.toNat % 8 = 0 → ∀ v : Dword, (m.write64 pa v).wf = true
        ∧ (m.write64 pa v).bigEndian pa.toNat 8 = v.toNat
        ∧ ∀ a, a < pa.toNat ∨ pa.toNat + 8 ≤ a → (m.write64 pa v).read a = m.read a))
  ∧ ∀ (s : State) (pa : Word) (v : Dword),
    let out := fun (r : BusRegion) => pa < r.first ∨ r.last < pa
    let answer := fun n => (Config.busAnswer s.freeIx s.busTrace pa n).toNat % 256 ^ n
    ((∀ r ∈ s.busMap, out r) → s.busKind pa = .ram)
    ∧ (∀ before r after, s.busMap = before ++ r :: after → (∀ q ∈ before, out q) → ¬ out r → s.busKind pa = r.kind)
    ∧ (s.busKind pa = .ram ∨ s.busKind pa = .rom → s.bus8 pa = s.mem.read8 pa ∧ s.bus16 pa = s.mem.read16 pa
        ∧ s.bus32 pa = s.mem.read32 pa ∧ s.bus64 pa = s.mem.read64 pa ∧ ∀ n, s.afterRead pa n = s)
    ∧ (s.busKind pa = .device ∨ s.busKind pa = .undecoded →
        (s.bus8 pa).toNat = answer 1 ∧ (s.bus16 pa).toNat = answer 2 ∧ (s.bus32 pa).toNat = answer 4
        ∧ (s.bus64 pa).toNat = answer 8
        ∧ ∀ n, n ≤ 8 → s.changesOnly (s.afterRead pa n) (· = .busTrace)
          ∧ (s.afterRead pa n).busTrace =
              { write := false, pa := pa, bytes := n, value := BitVec.ofNat 64 (answer n) } :: s.busTrace)
    ∧ (∀ w ∈ [(1, s.busWrite8 pa (v.setWidth 8), s.mem.write8 pa (v.setWidth 8)),
          (2, s.busWrite16 pa (v.setWidth 16), s.mem.write16 pa (v.setWidth 16)),
          (4, s.busWrite32 pa (v.setWidth 32), s.mem.write32 pa (v.setWidth 32)),
          (8, s.busWrite64 pa v, s.mem.write64 pa v)],
        (s.busKind pa = .ram → w.2.1 = s.setMem w.2.2)
        ∧ (s.busKind pa = .device → s.changesOnly w.2.1 (· = .busTrace) ∧ w.2.1.busTrace =
            { write := true, pa := pa, bytes := w.1, value := BitVec.ofNat 64 (v.toNat % 256 ^ w.1) } :: s.busTrace)
        ∧ (s.busKind pa = .rom ∨ s.busKind pa = .undecoded → w.2.1 = s))

/-- The 32-bit address map, read on the address as a signed number (R89, R90): an address that is not a
sign-extended word is disallowed in every mode; KSEG0 and KSEG1 are the kernel's two windows on the low 512 MB;
the mapped segments of each mode go to the TLB; the rest is disallowed. -/
def Obligations.Segments32 : Prop :=
  ∀ (s : State) (va : Dword) (kind : Access), s.addr64 = false → s.mode ≠ .undefined →
    let z := va.toInt
    let mapped := s.translate va kind = tlbLookup s.tlb s.asid va kind
    let disallowed := s.translate va kind = .error .disallowed
    (z < -2 ^ 31 ∨ 2 ^ 31 ≤ z → disallowed)
    ∧ (0 ≤ z ∧ z < 2 ^ 31 → mapped)
    ∧ (-0x80000000 ≤ z ∧ z < -0x60000000 → if s.mode = .kernel then
        s.translate va kind = .ok (BitVec.ofInt 32 (z + 0x80000000)) else disallowed)
    ∧ (-0x60000000 ≤ z ∧ z < -0x40000000 → if s.mode = .kernel then
        s.translate va kind = .ok (BitVec.ofInt 32 (z + 0x60000000)) else disallowed)
    ∧ (-0x40000000 ≤ z ∧ z < -0x20000000 → if s.mode = .user then disallowed else mapped)
    ∧ (-0x20000000 ≤ z ∧ z < 0 → if s.mode = .kernel then mapped else disallowed)

/-- The 64-bit address map (R91 to R93): every segment of every mode, the two compatibility windows, XKPHYS with
its unused bits, and disallowed everywhere else. -/
def Obligations.Segments64 : Prop :=
  ∀ (s : State) (va : Dword) (kind : Access), s.addr64 = true →
    let a := va.toNat
    let mapped := s.translate va kind = tlbLookup s.tlb s.asid va kind
    let disallowed := s.translate va kind = .error .disallowed
    let kernel := s.mode = .kernel
    (a < 2 ^ 40 → mapped)
    ∧ (2 ^ 62 ≤ a ∧ a < 2 ^ 62 + 2 ^ 40 → if s.mode = .user then disallowed else mapped)
    ∧ (2 ^ 63 ≤ a ∧ a < 2 ^ 63 + 2 ^ 62 → if kernel ∧ a / 2 ^ 32 % 2 ^ 27 = 0 then
        s.translate va kind = .ok (BitVec.ofNat 32 a) else disallowed)
    ∧ (2 ^ 63 + 2 ^ 62 ≤ a ∧ a < 2 ^ 63 + 2 ^ 62 + 2 ^ 40 - 2 ^ 31 → if kernel then mapped else disallowed)
    ∧ (2 ^ 64 - 0x80000000 ≤ a ∧ a < 2 ^ 64 - 0x60000000 → if kernel then
        s.translate va kind = .ok (BitVec.ofNat 32 (a - (2 ^ 64 - 0x80000000))) else disallowed)
    ∧ (2 ^ 64 - 0x60000000 ≤ a ∧ a < 2 ^ 64 - 0x40000000 → if kernel then
        s.translate va kind = .ok (BitVec.ofNat 32 (a - (2 ^ 64 - 0x60000000))) else disallowed)
    ∧ (2 ^ 64 - 0x40000000 ≤ a ∧ a < 2 ^ 64 - 0x20000000 → if s.mode = .user then disallowed else mapped)
    ∧ (2 ^ 64 - 0x20000000 ≤ a → if kernel then mapped else disallowed)
    ∧ ((2 ^ 40 ≤ a ∧ a < 2 ^ 62) ∨ (2 ^ 62 + 2 ^ 40 ≤ a ∧ a < 2 ^ 63)
        ∨ (2 ^ 63 + 2 ^ 62 + 2 ^ 40 - 2 ^ 31 ≤ a ∧ a < 2 ^ 64 - 0x80000000) → disallowed)

/-- The TLB (R95 to R97, R101): with a mask of `k` page-size steps an entry matches an address when it is
initialized, the page pairs and the regions are the same, and it is global or of the current ASID; the entry of
the lowest index that matches decides, by the page the selector bit names; none is a miss. -/
def Obligations.TlbLookupFirstMatch : Prop :=
  ∀ (tlb : Vector TlbEntry 32) (size : Fin 32 → Nat) (asid : BitVec 8) (va : Dword) (kind : Access),
    (∀ j, size j ≤ 6 ∧ (tlb[j]).mask.toNat = 4 ^ size j - 1) →
    let page := fun j => 4096 * 4 ^ size j
    let hit := fun j => (tlb[j]).initialized = true
      ∧ va.toNat % 2 ^ 40 / (2 * page j) * (2 * page j) = (tlb[j]).vpn2.toNat * 8192
      ∧ va.toNat / 2 ^ 62 = (tlb[j]).r.toNat ∧ ((tlb[j]).global = true ∨ (tlb[j]).asid = asid)
    ((∀ j, ¬ hit j) → tlbLookup tlb asid va kind = .error .miss)
    ∧ ∀ i, hit i → (∀ j, j < i → ¬ hit j) →
      let p := if va.toNat / page i % 2 = 0 then (tlb[i]).lo0 else (tlb[i]).lo1
      tlbLookup tlb asid va kind =
        if p.v = false then .error .invalid
        else if kind = .store ∧ p.d = false then .error .modified
        else .ok (BitVec.ofNat 32 (p.pfn.toNat * 4096 + va.toNat % page i))

/-- "TLBWI at index 0 …": TLBWI with Index 0 and PageMask 0 completes, writes that entry alone, and from the next
translation on a mapped address in the pair EntryHi names goes to the page its selector bit picks: the frame
times 0x1000 plus the offset when that EntryLo is valid, and dirty for a store (R96, 45_cp0 R377). -/
def Obligations.TlbwiThenAccess : Prop :=
  ∀ s : State, s.kernelMode = true ∨ s.cu0 = true → s.cp0.index.extractLsb' 0 6 = 0#6 →
    s.cp0.pageMask.extractLsb' 13 12 = 0#12 →
    completes .tlbwi s (· = .tlb 0) fun t =>
      ∀ (va : Dword) (kind : Access), region t.mode t.addr64 va = .mapped →
        va.extractLsb' 13 27 = s.cp0.entryHi.extractLsb' 13 27 →
        va.extractLsb' 62 2 = s.cp0.entryHi.extractLsb' 62 2 →
        let lo := if va.getLsbD 12 then s.cp0.entryLo1 else s.cp0.entryLo0
        t.translate va kind =
          if lo.getLsbD 1 = false then .error .invalid
          else if kind = .store ∧ lo.getLsbD 2 = false then .error .modified
          else .ok (BitVec.ofNat 32 (lo.toNat / 64 % 2 ^ 24 * 0x1000 + va.toNat % 4096))

/-- Alignment (R85): a misaligned load or store, once its mode and coprocessor checks have passed, and a
misaligned fetch raise the address error with the address recorded, whatever the translation would say. -/
def Obligations.MisalignedAccessRaises : Prop :=
  (∀ (i : Instr) (s : State) (base : Reg) (imm : Imm16) (n : Nat), i.usable s →
    let va := s.effectiveAddress base imm
    (i.loadAccess = some (base, imm, n) → va.toNat % n ≠ 0 → raisesAt i s va .adel)
    ∧ (i.storeAccess = some (base, imm, n) → va.toNat % n ≠ 0 → raisesAt i s va .ades))
  ∧ ∀ s : State, s.mode ≠ .undefined → s.beginStep.interruptCondition = false → s.pc.toNat % 4 ≠ 0 →
      step s = .next ((s.beginStep.recordFaultAddress s.pc).takeException .adel)

/-- The exceptions of a failed translation (R98), for every load, every store that reaches the bus and the fetch:
the address is recorded, and the class and the kind of access choose the exception. -/
def Obligations.TranslationFailureRaises : Prop :=
  (∀ (i : Instr) (s : State) (base : Reg) (imm : Imm16) (n : Nat) (f : XlateFail), i.usable s →
    let va := s.effectiveAddress base imm
    va.toNat % n = 0 →
    (i.loadAccess = some (base, imm, n) → s.translate va .load = .error f →
      f ≠ .modified ∧ raisesAt i s va (raisedBy f .load))
    ∧ (i.storeAccess = some (base, imm, n) → (i.conditional = true → s.llbit = true) →
      s.translate va .store = .error f → raisesAt i s va (raisedBy f .store)))
  ∧ ∀ (s : State) (f : XlateFail), s.mode ≠ .undefined → s.beginStep.interruptCondition = false →
      s.pc.toNat % 4 = 0 → s.translate s.pc .fetch = .error f →
      f ≠ .modified ∧ step s = .next ((s.beginStep.recordFaultAddress s.pc).takeException (raisedBy f .fetch))

/-! ### Integer arithmetic, logic, shifts (40_integer_alu) -/

/-- The operand forms (30_encoding R146, 43_load_store R290, 42_branch_jump R252) as the meanings compute them:
the effective address, the branch target, the jump target, the link value. -/
def Obligations.OperandForms : Prop :=
  ∀ (s : State) (r : Reg) (imm : Imm16) (idx : BitVec 26),
    s.effectiveAddress r imm = BitVec.ofInt 64 ((s.x r).toInt + imm.toInt)
    ∧ s.branchTarget imm = branchTo s.prevPc imm
    ∧ s.jumpTarget idx = jumpTo s.prevPc idx
    ∧ s.linkValue = s.prevPc + 8#64
    ∧ s.shift5 r = (s.x r).toNat % 32 ∧ s.shift6 r = (s.x r).toNat % 64

/-- Checked arithmetic (R210): when the true signed result fits in 32 bits (64 bits for the D forms) the
destination receives it; when it does not, Ov is raised, and the destination keeps its value. -/
def Obligations.CheckedArithmetic : Prop :=
  ∀ (s : State) (rd rs rt : Reg) (imm : Imm16),
    let checked := fun (n : Nat) (i : Instr) (r : Reg) (z : Int) =>
      (-2 ^ (n - 1) ≤ z ∧ z < 2 ^ (n - 1) → writesGpr i s r (BitVec.ofInt 64 z))
      ∧ (z < -2 ^ (n - 1) ∨ 2 ^ (n - 1) ≤ z → raises i s .ov)
    checked 32 (.add rd rs rt) rd (low32 (s.x rs) + low32 (s.x rt))
    ∧ checked 32 (.sub rd rs rt) rd (low32 (s.x rs) - low32 (s.x rt))
    ∧ checked 32 (.addi rt rs imm) rt (low32 (s.x rs) + imm.toInt)
    ∧ (s.ops64 = true →
        checked 64 (.dadd rd rs rt) rd ((s.x rs).toInt + (s.x rt).toInt)
        ∧ checked 64 (.dsub rd rs rt) rd ((s.x rs).toInt - (s.x rt).toInt)
        ∧ checked 64 (.daddi rt rs imm) rt ((s.x rs).toInt + imm.toInt))

/-- Unchecked arithmetic wraps: the destination receives the true result modulo 2^32, sign-extended, or modulo
2^64 (R171, R173, R181, R183, R185, R193, R191). -/
def Obligations.UncheckedArithmetic : Prop :=
  ∀ (s : State) (rd rs rt : Reg) (imm : Imm16),
    writesGpr (.addu rd rs rt) s rd (word32 ((s.x rs).toInt + (s.x rt).toInt))
    ∧ writesGpr (.subu rd rs rt) s rd (word32 ((s.x rs).toInt - (s.x rt).toInt))
    ∧ writesGpr (.addiu rt rs imm) s rt (word32 ((s.x rs).toInt + imm.toInt))
    ∧ writesGpr (.lui rt imm) s rt (BitVec.ofInt 64 (imm.toInt * 2 ^ 16))
    ∧ (s.ops64 = true →
        writesGpr (.daddu rd rs rt) s rd (BitVec.ofInt 64 ((s.x rs).toInt + (s.x rt).toInt))
        ∧ writesGpr (.dsubu rd rs rt) s rd (BitVec.ofInt 64 ((s.x rs).toInt - (s.x rt).toInt))
        ∧ writesGpr (.daddiu rt rs imm) s rt (BitVec.ofInt 64 ((s.x rs).toInt + imm.toInt)))

/-- Logic, bit by bit on all 64 bits, with the immediate zero-extended; and the four comparisons, which write 1
or 0, with the immediate sign-extended, unsigned comparison included (R174 to R179, R186 to R190). -/
def Obligations.LogicAndComparison : Prop :=
  ∀ (s : State) (rd rs rt : Reg) (imm : Imm16),
    let bits := fun (i : Instr) (r : Reg) (b : Nat → Bool) =>
      ∃ v : Dword, writesGpr i s r v ∧ ∀ k, k < 64 → v.getLsbD k = b k
    let x := fun k => (s.x rs).getLsbD k
    let y := fun k => (s.x rt).getLsbD k
    let z := fun k => decide (k < 16) && imm.getLsbD k
    bits (.and rd rs rt) rd (fun k => x k && y k) ∧ bits (.or rd rs rt) rd (fun k => x k || y k)
    ∧ bits (.xor rd rs rt) rd (fun k => x k != y k) ∧ bits (.nor rd rs rt) rd (fun k => !(x k || y k))
    ∧ bits (.andi rt rs imm) rt (fun k => x k && z k) ∧ bits (.ori rt rs imm) rt (fun k => x k || z k)
    ∧ bits (.xori rt rs imm) rt (fun k => x k != z k)
    ∧ writesGpr (.slt rd rs rt) s rd (if (s.x rs).toInt < (s.x rt).toInt then 1#64 else 0#64)
    ∧ writesGpr (.sltu rd rs rt) s rd (if (s.x rs).toNat < (s.x rt).toNat then 1#64 else 0#64)
    ∧ writesGpr (.slti rt rs imm) s rt (if (s.x rs).toInt < imm.toInt then 1#64 else 0#64)
    ∧ writesGpr (.sltiu rt rs imm) s rt
        (if (s.x rs).toNat < (BitVec.ofInt 64 imm.toInt).toNat then 1#64 else 0#64)

/-- The shifts as multiplication and division by a power of two (R194 to R208): a 32-bit left or logical right
shift works on the low word and sign-extends; SRA and SRAV shift the whole register and keep the low word; the D
forms work on 64 bits, the 32 forms by 32 more; a variable amount is the low 5 or 6 bits of the register. -/
def Obligations.Shifts : Prop :=
  ∀ (s : State) (rd rt rs : Reg) (sa : BitVec 5),
    let u := (s.x rt).toNat
    let z := (s.x rt).toInt
    let n := sa.toNat
    let v5 := (s.x rs).toNat % 32
    let v6 := (s.x rs).toNat % 64
    let left := fun (k : Nat) => word32 (z * 2 ^ k)
    let right := fun (k : Nat) => word32 ((u % 2 ^ 32 / 2 ^ k : ℕ) : ℤ)
    let arith := fun (k : Nat) => word32 (z / 2 ^ k)
    writesGpr (.sll rd rt sa) s rd (left n) ∧ writesGpr (.srl rd rt sa) s rd (right n)
    ∧ writesGpr (.sra rd rt sa) s rd (arith n) ∧ writesGpr (.sllv rd rt rs) s rd (left v5)
    ∧ writesGpr (.srlv rd rt rs) s rd (right v5) ∧ writesGpr (.srav rd rt rs) s rd (arith v5)
    ∧ (s.ops64 = true →
        let left := fun (k : Nat) => BitVec.ofNat 64 (u * 2 ^ k)
        let right := fun (k : Nat) => BitVec.ofNat 64 (u / 2 ^ k)
        let arith := fun (k : Nat) => BitVec.ofInt 64 (z / 2 ^ k)
        writesGpr (.dsll rd rt sa) s rd (left n) ∧ writesGpr (.dsrl rd rt sa) s rd (right n)
        ∧ writesGpr (.dsra rd rt sa) s rd (arith n) ∧ writesGpr (.dsllv rd rt rs) s rd (left v6)
        ∧ writesGpr (.dsrlv rd rt rs) s rd (right v6) ∧ writesGpr (.dsrav rd rt rs) s rd (arith v6)
        ∧ writesGpr (.dsll32 rd rt sa) s rd (left (n + 32)) ∧ writesGpr (.dsrl32 rd rt sa) s rd (right (n + 32))
        ∧ writesGpr (.dsra32 rd rt sa) s rd (arith (n + 32)))

/-! ### Multiply, divide, hi and lo (41_muldiv) -/

/-- Multiplication is exact: hi and lo together are the whole product, each half of a 32-bit one sign-extended
(R230, R231, R234, R235, R242). The moves of hi and lo copy all 64 bits (R238 to R241). -/
def Obligations.ProductsAndMoves : Prop :=
  ∀ (s : State) (rs rt : Reg),
    let hiLo := fun (i : Instr) (post : State → Prop) => completes i s (fun p => p = .hi ∨ p = .lo) post
    let sext := fun (v : Dword) => v = word32 v.toInt
    hiLo (.mult rs rt) (fun t => sext t.hi ∧ sext t.lo
      ∧ t.hi.toInt * 2 ^ 32 + low32u t.lo = low32 (s.x rs) * low32 (s.x rt))
    ∧ hiLo (.multu rs rt) (fun t => sext t.hi ∧ sext t.lo
      ∧ low32u t.hi * 2 ^ 32 + low32u t.lo = low32u (s.x rs) * low32u (s.x rt))
    ∧ writesGpr (.mfhi rt) s rt s.hi ∧ writesGpr (.mflo rt) s rt s.lo
    ∧ completes (.mthi rs) s (· = .hi) (fun t => t.hi = s.x rs)
    ∧ completes (.mtlo rs) s (· = .lo) (fun t => t.lo = s.x rs)
    ∧ (s.ops64 = true →
        hiLo (.dmult rs rt) (fun t => t.hi.toInt * 2 ^ 64 + t.lo.toNat = (s.x rs).toInt * (s.x rt).toInt)
        ∧ hiLo (.dmultu rs rt) (fun t => t.hi.toNat * 2 ^ 64 + t.lo.toNat = (s.x rs).toNat * (s.x rt).toNat))

/-- Division (R232, R233, R236, R237, R242 d): the quotient times the divisor plus the remainder is the dividend,
the remainder is smaller than the divisor and has the dividend's sign; division by zero and the overflowing
signed division give what the rules define, and nothing is raised. -/
def Obligations.Division : Prop :=
  ∀ (s : State) (rs rt : Reg),
    let hiLo := fun (i : Instr) (post : State → Prop) => completes i s (fun p => p = .hi ∨ p = .lo) post
    let signed := fun (bits : Nat) (i : Instr) (n d : Int) => hiLo i fun t =>
      if d = 0 then t.lo = (if 0 ≤ n then BitVec.allOnes 64 else 1#64) ∧ t.hi.toInt = n
      else if n = -2 ^ (bits - 1) ∧ d = -1 then t.lo.toInt = n ∧ t.hi = 0#64
      else t.lo.toInt * d + t.hi.toInt = n ∧ |t.hi.toInt| < |d| ∧ (t.hi.toInt < 0 → n < 0) ∧ (0 < t.hi.toInt → 0 < n)
    signed 32 (.div rs rt) (low32 (s.x rs)) (low32 (s.x rt))
    ∧ hiLo (.divu rs rt) (fun t => t.hi = word32 t.hi.toInt ∧ t.lo = word32 t.lo.toInt
        ∧ if low32u (s.x rt) = 0 then t.lo = BitVec.allOnes 64 ∧ low32u t.hi = low32u (s.x rs)
          else low32u t.lo * low32u (s.x rt) + low32u t.hi = low32u (s.x rs) ∧ low32u t.hi < low32u (s.x rt))
    ∧ (s.ops64 = true →
        signed 64 (.ddiv rs rt) (s.x rs).toInt (s.x rt).toInt
        ∧ hiLo (.ddivu rs rt) fun t =>
            if s.x rt = 0#64 then t.lo = BitVec.allOnes 64 ∧ t.hi = s.x rs
            else t.lo.toNat * (s.x rt).toNat + t.hi.toNat = (s.x rs).toNat ∧ t.hi.toNat < (s.x rt).toNat)

/-! ### Branches and jumps (42_branch_jump, 46_fpu_move R408 to R411) -/

/-- Branches and jumps that keep their delay slot (R250, R252): the pending flag is set whether or not the
branch is taken, `next_pc` becomes the target only when it is, `pc` never moves; the linking ones write the
link in either case, from the condition and the target read before. -/
def Obligations.BranchesAndJumps : Prop :=
  ∀ (s : State) (rd rs rt : Reg) (imm : Imm16) (idx : BitVec 26),
    let br := fun (i : Instr) (c : Prop) (target : Dword) =>
      completes i s (fun p => p = .branchPending ∨ p = .nextPc) fun t =>
        t.branchPending = true ∧ (c → t.nextPc = target) ∧ (¬ c → t.nextPc = s.nextPc)
    let link := fun (i : Instr) (r : Reg) (c : Prop) (target : Dword) =>
      completes i s (fun p => p = .branchPending ∨ p = .nextPc ∨ p = .gpr r) fun t =>
        t.branchPending = true ∧ (c → t.nextPc = target) ∧ (¬ c → t.nextPc = s.nextPc)
          ∧ t.x r = if r = 0#5 then 0#64 else s.prevPc + 8#64
    let there := branchTo s.prevPc imm
    let z := (s.x rs).toInt
    br (.j idx) True (jumpTo s.prevPc idx) ∧ br (.jr rs) True (s.x rs)
    ∧ br (.beq rs rt imm) (s.x rs = s.x rt) there ∧ br (.bne rs rt imm) (s.x rs ≠ s.x rt) there
    ∧ br (.blez rs imm) (z ≤ 0) there ∧ br (.bgtz rs imm) (0 < z) there
    ∧ br (.bltz rs imm) (z < 0) there ∧ br (.bgez rs imm) (0 ≤ z) there
    ∧ link (.jal idx) 31#5 True (jumpTo s.prevPc idx) ∧ link (.jalr rd rs) rd True (s.x rs)
    ∧ link (.bltzal rs imm) 31#5 (z < 0) there ∧ link (.bgezal rs imm) 31#5 (0 ≤ z) there
    ∧ (s.cu1 = true → br (.bc1f imm) (s.fcr31.getLsbD 23 = false) there
        ∧ br (.bc1t imm) (s.fcr31.getLsbD 23 = true) there)

/-- Likely branches (R251): taken, they behave as the others; not taken, the delay slot is skipped: execution
goes on at what was `next_pc` and no branch is pending; the linking ones write the link in either case. -/
def Obligations.LikelyBranches : Prop :=
  ∀ (s : State) (rs rt : Reg) (imm : Imm16),
    let there := branchTo s.prevPc imm
    let goes := fun (c : Prop) (t : State) =>
      (c → t.pc = s.pc ∧ t.nextPc = there ∧ t.branchPending = true)
      ∧ (¬ c → t.pc = s.nextPc ∧ t.nextPc = s.nextPc + 4#64 ∧ t.branchPending = s.branchPending)
    let br := fun (i : Instr) (c : Prop) =>
      completes i s (fun p => p = .branchPending ∨ p = .nextPc ∨ p = .pc) (goes c)
    let link := fun (i : Instr) (c : Prop) =>
      completes i s (fun p => p = .branchPending ∨ p = .nextPc ∨ p = .pc ∨ p = .gpr 31#5) fun t =>
        goes c t ∧ t.x 31#5 = s.prevPc + 8#64
    let z := (s.x rs).toInt
    br (.beql rs rt imm) (s.x rs = s.x rt) ∧ br (.bnel rs rt imm) (s.x rs ≠ s.x rt)
    ∧ br (.blezl rs imm) (z ≤ 0) ∧ br (.bgtzl rs imm) (0 < z)
    ∧ br (.bltzl rs imm) (z < 0) ∧ br (.bgezl rs imm) (0 ≤ z)
    ∧ link (.bltzall rs imm) (z < 0) ∧ link (.bgezall rs imm) (0 ≤ z)
    ∧ (s.cu1 = true → br (.bc1fl imm) (s.fcr31.getLsbD 23 = false) ∧ br (.bc1tl imm) (s.fcr31.getLsbD 23 = true))

/-! ### Loads and stores (43_load_store) -/

/-- Aligned loads (R291 to R297): the register receives what the bus answers at the address, in memory the bytes as one
number, the lowest address most significant, sign-extended or zero-extended to 64 bits. Outside memory the answer is
free (R81), and that the platform's record keeps the read is the model's choice (log 8). -/
def Obligations.AlignedLoads : Prop :=
  ∀ (s : State) (rt base : Reg) (imm : Imm16) (pa : Word),
    let at_ := fun n => s.reaches (s.effectiveAddress base imm) n .load pa
    let unsigned := fun n => BitVec.ofNat 64 (s.busNumber pa n)
    let signed := fun n => BitVec.ofInt 64 ((s.busNumber pa n : ℤ).bmod (2 ^ (8 * n)))
    (at_ 1 → loadsGpr (.lb rt base imm) s rt pa 1 (signed 1) ∧ loadsGpr (.lbu rt base imm) s rt pa 1 (unsigned 1))
    ∧ (at_ 2 → loadsGpr (.lh rt base imm) s rt pa 2 (signed 2) ∧ loadsGpr (.lhu rt base imm) s rt pa 2 (unsigned 2))
    ∧ (at_ 4 → loadsGpr (.lw rt base imm) s rt pa 4 (signed 4)
        ∧ (s.ops64 = true → loadsGpr (.lwu rt base imm) s rt pa 4 (unsigned 4)))
    ∧ (at_ 8 → s.ops64 = true → loadsGpr (.ld rt base imm) s rt pa 8 (unsigned 8))

/-- Aligned stores (R302 to R305): the low bytes of the register go to the address, the most significant to the
lowest; every other byte keeps its value. R81 leaves open what stands behind the bus. A write where nothing decodes
the address is lost (93 U25); that ROM loses the write and a device sees it, and the form of the map and of the
record, are the model's choice (log 8). -/
def Obligations.AlignedStores : Prop :=
  ∀ (s : State) (rt base : Reg) (imm : Imm16) (pa : Word), s.mem.wf = true →
    let at_ := fun n => s.reaches (s.effectiveAddress base imm) n .store pa
    (at_ 1 → storesBytes (.sb rt base imm) s pa 1 (s.x rt).toNat)
    ∧ (at_ 2 → storesBytes (.sh rt base imm) s pa 2 (s.x rt).toNat)
    ∧ (at_ 4 → storesBytes (.sw rt base imm) s pa 4 (s.x rt).toNat)
    ∧ (at_ 8 → s.ops64 = true → storesBytes (.sd rt base imm) s pa 8 (s.x rt).toNat)

/-- The unaligned loads, byte by byte (R298 to R301), of the aligned container the bus answers: the left forms put the
bytes from the address to the end of the container at the high end of the register, the right forms the bytes from
the container's start to the address at the low end; the other bytes are kept, and a 32-bit result is
sign-extended. Outside memory the answer is free (R81), and that the platform's record keeps the read is the model's
choice (log 8). -/
def Obligations.UnalignedLoads : Prop :=
  ∀ (s : State) (rt base : Reg) (imm : Imm16) (pa : Word),
    let va := s.effectiveAddress base imm
    s.translate va .load = .ok pa →
    let o := va.toNat % 4
    let q := va.toNat % 8
    let wb := pa - BitVec.ofNat 32 o
    let db := pa - BitVec.ofNat 32 q
    let c := s.busNumber wb 4
    let e := s.busNumber db 8
    let w := low32u (s.x rt)
    let d := (s.x rt).toNat
    loadsGpr (.lwl rt base imm) s rt wb 4 (word32 ((c % 256 ^ (4 - o) * 256 ^ o + w % 256 ^ o : ℕ) : ℤ))
    ∧ loadsGpr (.lwr rt base imm) s rt wb 4
        (word32 ((w / 256 ^ (o + 1) * 256 ^ (o + 1) + c / 256 ^ (3 - o) : ℕ) : ℤ))
    ∧ (s.ops64 = true →
        loadsGpr (.ldl rt base imm) s rt db 8 (BitVec.ofNat 64 (e % 256 ^ (8 - q) * 256 ^ q + d % 256 ^ q))
        ∧ loadsGpr (.ldr rt base imm) s rt db 8
            (BitVec.ofNat 64 (d / 256 ^ (q + 1) * 256 ^ (q + 1) + e / 256 ^ (7 - q))))

/-- The unaligned stores, byte by byte (R306 to R309): the left forms store the high bytes of the register from the
address to the end of its aligned container, the right forms the low bytes from the container's start to the address;
every other byte keeps its value. A device sees the read and the write of the whole container (20_memory R109), and a
write where nothing decodes the address is lost (93 U25); that ROM loses the write, and the form of the map and of the
record, are the model's choice (log 8). -/
def Obligations.UnalignedStores : Prop :=
  ∀ (s : State) (rt base : Reg) (imm : Imm16) (pa : Word), s.mem.wf = true →
    let va := s.effectiveAddress base imm
    s.translate va .store = .ok pa →
    let o := va.toNat % 4
    let q := va.toNat % 8
    let wb := pa - BitVec.ofNat 32 o
    let db := pa - BitVec.ofNat 32 q
    mergesBytes (.swl rt base imm) s wb 4 o (4 - o) (low32u (s.x rt) / 256 ^ o)
    ∧ mergesBytes (.swr rt base imm) s wb 4 0 (o + 1) (s.x rt).toNat
    ∧ (s.ops64 = true →
        mergesBytes (.sdl rt base imm) s db 8 q (8 - q) ((s.x rt).toNat / 256 ^ q)
        ∧ mergesBytes (.sdr rt base imm) s db 8 0 (q + 1) (s.x rt).toNat)

/-- The pairs the unaligned forms exist for, in memory: LWL at an address and LWR three bytes on load the unaligned
word there, LDL and LDR seven bytes on the doubleword, into any register but the base they both need; SWL and SWR,
SDL and SDR store it in RAM; nothing else changes. Which addresses are RAM or ROM a field of the model says (log
8). -/
def Obligations.UnalignedPairs : Prop :=
  ∀ (s : State) (rt base : Reg) (imm last : Imm16) (n : Nat) (pa pb : Word) (kind : Access),
    let va := s.effectiveAddress base imm
    let vb := s.effectiveAddress base last
    let ca := pa - BitVec.ofNat 32 (pa.toNat % n)
    let cb := pb - BitVec.ofNat 32 (pb.toNat % n)
    let pair := fun (i j : Instr) (w : Part → Prop) (post : State → Prop) =>
      ∃ t u, exec i s = .next t ∧ exec j t = .next u ∧ s.changesOnly u w ∧ post u
    let reg := fun v => if rt = 0#5 then 0#64 else v
    vb = va + BitVec.ofNat 64 (n - 1) → s.translate va kind = .ok pa → s.translate vb kind = .ok pb →
    pb.toNat = pa.toNat + (n - 1) →
    (kind = .load → rt = 0#5 ∨ rt ≠ base → s.isMemory ca = true → s.isMemory cb = true →
      (n = 4 → pair (.lwl rt base imm) (.lwr rt base last) (· = .gpr rt)
        fun u => u.x rt = reg (word32 (s.mem.bigEndian pa.toNat 4)))
      ∧ (n = 8 → s.ops64 = true → pair (.ldl rt base imm) (.ldr rt base last) (· = .gpr rt)
        fun u => u.x rt = reg (BitVec.ofNat 64 (s.mem.bigEndian pa.toNat 8))))
    ∧ (kind = .store → s.mem.wf = true → s.busKind ca = .ram → s.busKind cb = .ram →
      (n = 4 → pair (.swl rt base imm) (.swr rt base last) (bytesAt pa 4)
        fun u => u.holdsBytes pa 4 (s.x rt).toNat)
      ∧ (n = 8 → s.ops64 = true → pair (.sdl rt base imm) (.sdr rt base last) (bytesAt pa 8)
        fun u => u.holdsBytes pa 8 (s.x rt).toNat))

/-- Load linked and store conditional (R310 to R313, 20_memory R105): LL and LLD load, set llbit and put the
physical address divided by 16 into LLAddr; SC and SCD store and write 1 when llbit is set, wherever it was set,
and write 0 and make no access when it is clear; llbit stays as it was. Which addresses are RAM, and what an access
outside it leaves, is the model's choice (log 8). -/
def Obligations.LoadLinkedStoreConditional : Prop :=
  ∀ (s : State) (rt base : Reg) (imm : Imm16) (pa : Word),
    let va := s.effectiveAddress base imm
    let reg := fun (v : Dword) => if rt = 0#5 then 0#64 else v
    let linked := fun (i : Instr) (n : Nat) (v : Dword) =>
      loads i s (fun p => p = .gpr rt ∨ p = .llbit ∨ p = .cp0 .llAddr) pa n fun t =>
        t.x rt = reg v ∧ t.llbit = true ∧ t.cp0.llAddr.toNat = pa.toNat / 16
    let stored := fun (i : Instr) (n : Nat) =>
      completes i s (fun p => p = .gpr rt ∨ s.storeWrites pa n p) fun t =>
        t.x rt = reg 1#64 ∧ s.stored t pa n (s.x rt).toNat
    (s.reaches va 4 .load pa → linked (.ll rt base imm) 4 (word32 (s.busNumber pa 4)))
    ∧ (s.ops64 = true → s.reaches va 8 .load pa →
        linked (.lld rt base imm) 8 (BitVec.ofNat 64 (s.busNumber pa 8)))
    ∧ (s.mem.wf = true → s.llbit = true → s.reaches va 4 .store pa → stored (.sc rt base imm) 4)
    ∧ (s.mem.wf = true → s.llbit = true → s.ops64 = true → s.reaches va 8 .store pa → stored (.scd rt base imm) 8)
    ∧ (s.llbit = false → va.toNat % 4 = 0 → writesGpr (.sc rt base imm) s rt 0#64)
    ∧ (s.llbit = false → s.ops64 = true → va.toNat % 8 = 0 → writesGpr (.scd rt base imm) s rt 0#64)

/-- The FP loads and stores move raw bits (R314 to R317): a 32-bit load keeps the other half of the pair, a 64-bit
access uses the even register of a pair when FR = 0. Which addresses are RAM, and what an access outside it leaves, is
the model's choice (log 8). -/
def Obligations.FpLoadsAndStores : Prop :=
  ∀ (s : State) (ft : FReg) (base : Reg) (imm : Imm16) (pa : Word), s.cu1 = true →
    let va := s.effectiveAddress base imm
    (s.reaches va 4 .load pa → loads (.lwc1 ft base imm) s (· = .fpr (s.fprCell ft)) pa 4 fun t =>
      s.writes32 t ft (BitVec.ofNat 32 (s.busNumber pa 4)))
    ∧ (s.reaches va 8 .load pa → loads (.ldc1 ft base imm) s (· = .fpr (s.fprCell ft)) pa 8 fun t =>
      t.fgr64 ft = BitVec.ofNat 64 (s.busNumber pa 8))
    ∧ (s.mem.wf = true → s.reaches va 4 .store pa → storesBytes (.swc1 ft base imm) s pa 4 (s.fgr32 ft).toNat)
    ∧ (s.mem.wf = true → s.reaches va 8 .store pa → storesBytes (.sdc1 ft base imm) s pa 8 (s.fgr64 ft).toNat)

/-! ### System calls, traps, barriers (44_trap_system) -/

/-- SYSCALL and BREAK raise in every mode, whatever their code; each conditional trap raises Tr when its condition
holds on the 64-bit values and otherwise changes nothing; NOP, SYNC and CACHE, in every mode and whatever CU0 is,
change nothing: the next state is the state (R340 to R355, R209; that CACHE takes no CpU(0) is the model's reading of
R343 against 93 U23, log 13). -/
def Obligations.TrapsAndBarriers : Prop :=
  ∀ (s : State) (rs rt : Reg) (imm : Imm16) (code : BitVec 10) (c20 : BitVec 20) (op : BitVec 5),
    let trap := fun (i : Instr) (c : Prop) =>
      (c → raises i s .tr) ∧ (¬ c → completes i s nothing fun _ => True)
    let a := (s.x rs).toInt
    let b := (s.x rt).toInt
    let ua := (s.x rs).toNat
    let ub := (s.x rt).toNat
    let k := imm.toInt
    let uk := (BitVec.ofInt 64 imm.toInt).toNat
    raises (.syscall c20) s .sys ∧ raises (.break_ c20) s .bp
    ∧ trap (.tge rs rt code) (b ≤ a) ∧ trap (.tgeu rs rt code) (ub ≤ ua)
    ∧ trap (.tlt rs rt code) (a < b) ∧ trap (.tltu rs rt code) (ua < ub)
    ∧ trap (.teq rs rt code) (a = b) ∧ trap (.tne rs rt code) (a ≠ b)
    ∧ trap (.tgei rs imm) (k ≤ a) ∧ trap (.tgeiu rs imm) (uk ≤ ua)
    ∧ trap (.tlti rs imm) (a < k) ∧ trap (.tltiu rs imm) (ua < uk)
    ∧ trap (.teqi rs imm) (a = k) ∧ trap (.tnei rs imm) (a ≠ k)
    ∧ exec .nop s = .next s ∧ exec .sync s = .next s ∧ exec (.cache op rs imm) s = .next s

/-! ### Coprocessor 0 (45_cp0) -/

/-- Reading CP0 (R370 to R372): the 64-bit registers whole, the others sign-extended (Random zero-extended);
MFC0 takes the low word, sign-extended, DMFC0 all 64 bits. A reserved number, 7, 21 to 25 or 31, reads as the free value
RESERVED_CP0_READ (log 5). -/
def Obligations.Cp0Reads : Prop :=
  ∀ (s : State) (rt rd : Reg), s.kernelMode = true ∨ s.cu0 = true →
    writesGpr (.mfc0 rt rd) s rt (word32 (s.cp0.read rd).toInt)
    ∧ (s.ops64 = true → writesGpr (.dmfc0 rt rd) s rt (s.cp0.read rd))
    ∧ (let c := s.cp0
       let r := c.read
       r 2#5 = c.entryLo0 ∧ r 3#5 = c.entryLo1 ∧ r 4#5 = c.context ∧ r 8#5 = c.badVAddr ∧ r 10#5 = c.entryHi
       ∧ r 14#5 = c.epc ∧ r 20#5 = c.xContext ∧ r 30#5 = c.errorEpc ∧ (r 1#5).toNat = c.random.toNat
       ∧ (r 0#5).toInt = c.index.toInt ∧ (r 5#5).toInt = c.pageMask.toInt ∧ (r 6#5).toInt = c.wired.toInt
       ∧ r 9#5 = word32 ((c.cnt33.toNat / 2 : ℕ) : ℤ) ∧ (r 11#5).toInt = c.compare.toInt
       ∧ (r 12#5).toInt = c.status.toInt ∧ (r 13#5).toInt = c.cause.toInt ∧ (r 15#5).toInt = c.prid.toInt
       ∧ (r 16#5).toInt = c.config.toInt ∧ (r 17#5).toInt = c.llAddr.toInt ∧ (r 18#5).toInt = c.watchLo.toInt
       ∧ (r 19#5).toInt = c.watchHi.toInt ∧ (r 26#5).toInt = c.parityError.toInt
       ∧ (r 27#5).toInt = c.cacheError.toInt ∧ (r 28#5).toInt = c.tagLo.toInt ∧ (r 29#5).toInt = c.tagHi.toInt
       ∧ ∀ n ∈ [7#5, 21#5, 22#5, 23#5, 24#5, 25#5, 31#5], r n = Config.reservedCp0Read)

/-- Writing CP0 (R373 to R375): MTC0 writes the low word sign-extended, DMTC0 all 64 bits; each register takes the
bits of its mask and no other register changes, but Wired restarts Random at 31 and Compare clears Cause.IP[7];
Random, BadVAddr, PRId, Cache Error, TagHi and the reserved numbers take nothing. That Status drops bit 21 is the
model's reading of the mask of R375 against 92 D35 (log 15). -/
def Obligations.Cp0Writes : Prop :=
  ∀ (s : State) (rt rd : Reg), s.kernelMode = true ∨ s.cu0 = true →
    let writes := fun (i : Instr) (v : Dword) =>
      completes i s (fun p => ∃ r, r ∈ Cp0Reg.written rd ∧ p = .cp0 r) fun t =>
        t.cp0.read rd = cp0Written rd v (s.cp0.read rd)
        ∧ (rd = 6#5 → t.cp0.random = 31#6) ∧ (rd = 9#5 → t.cp0.cnt33.toNat = v.toNat % 2 ^ 32 * 2)
        ∧ (rd = 11#5 → t.cp0.cause = s.cp0.cause &&& ~~~0x8000#32)
    writes (.mtc0 rt rd) (word32 (s.x rt).toInt) ∧ (s.ops64 = true → writes (.dmtc0 rt rd) (s.x rt))

/-- The TLB instructions where they may run (R376 to R379): TLBWI writes the entry Index names and TLBWR the one
Random names, between Wired and 31, from PageMask, EntryHi and the EntryLo pair; TLBR reads the entry back; TLBP
finds the lowest entry that matches EntryHi, else sets P. An Index that names no entry is refused. -/
def Obligations.TlbInstructions : Prop :=
  ∀ s : State, s.kernelMode = true ∨ s.cu0 = true →
    let ix := s.cp0.index.toNat % 64
    let c := s.cp0
    let fromRegisters := fun (e : TlbEntry) =>
      e.initialized = true ∧ e.mask = c.pageMask.extractLsb' 13 12 ∧ e.r = c.entryHi.extractLsb' 62 2
      ∧ e.vpn2 = c.entryHi.extractLsb' 13 27 &&& ~~~((c.pageMask.extractLsb' 13 12).setWidth 27)
      ∧ e.asid = c.entryHi.extractLsb' 0 8 ∧ e.global = (c.entryLo0.getLsbD 0 && c.entryLo1.getLsbD 0)
      ∧ e.lo0.pfn = c.entryLo0.extractLsb' 6 24 ∧ e.lo0.c = c.entryLo0.extractLsb' 3 3
      ∧ e.lo0.d = c.entryLo0.getLsbD 2 ∧ e.lo0.v = c.entryLo0.getLsbD 1
      ∧ e.lo1.pfn = c.entryLo1.extractLsb' 6 24 ∧ e.lo1.c = c.entryLo1.extractLsb' 3 3
      ∧ e.lo1.d = c.entryLo1.getLsbD 2 ∧ e.lo1.v = c.entryLo1.getLsbD 1
    let lo := fun (p : TlbPage) (g : Bool) =>
      p.pfn.toNat * 64 + p.c.toNat * 8 + p.d.toNat * 4 + p.v.toNat * 2 + g.toNat
    let matched := fun (e : TlbEntry) => e.initialized = true
      ∧ e.vpn2 = c.entryHi.extractLsb' 13 27 &&& ~~~(e.mask.setWidth 27) ∧ e.r = c.entryHi.extractLsb' 62 2
      ∧ (e.global = true ∨ e.asid = c.entryHi.extractLsb' 0 8)
    (∀ i : Fin 32, i.val = ix → completes .tlbwi s (· = .tlb i) fun t => fromRegisters t.tlb[i])
    ∧ (∀ i : Fin 32, i.val = c.random.toNat → c.wired.extractLsb' 0 6 ≤ 31#6 →
        completes .tlbwr s (· = .tlb i) fun t => fromRegisters t.tlb[i])
    ∧ (∀ i : Fin 32, i.val = ix →
        completes .tlbr s (fun p => p = .cp0 .pageMask ∨ p = .cp0 .entryHi ∨ p = .cp0 .entryLo0 ∨ p = .cp0 .entryLo1)
          fun t => let e := s.tlb[i]
            t.cp0.pageMask.toNat = e.mask.toNat * 2 ^ 13
            ∧ t.cp0.entryHi.toNat = e.r.toNat * 2 ^ 62 + e.vpn2.toNat * 2 ^ 13 + e.asid.toNat
            ∧ t.cp0.entryLo0.toNat = lo e.lo0 e.global ∧ t.cp0.entryLo1.toNat = lo e.lo1 e.global)
    ∧ completes .tlbp s (· = .cp0 .index) (fun t =>
        ((∀ j : Fin 32, ¬ matched s.tlb[j]) → t.cp0.index = 0x80000000#32)
        ∧ ∀ i : Fin 32, matched s.tlb[i] → (∀ j, j < i → ¬ matched s.tlb[j]) → t.cp0.index.toNat = i.val)
    ∧ (32 ≤ ix → exec .tlbwi s = .refused (.noTlbEntry (c.index.extractLsb' 0 6))
        ∧ exec .tlbr s = .refused (.noTlbEntry (c.index.extractLsb' 0 6)))
    ∧ (31#6 < c.wired.extractLsb' 0 6 → exec .tlbwr s = .refused .noRandomRange)

/-! ### FPU moves and control registers (46_fpu_move) -/

/-- The register views (R401): with FR = 1, 32 registers of 64 bits, a 32-bit access uses the low half; with
FR = 0 an odd 32-bit register is the high half of the even one below it and a 64-bit access uses the even one; a
write changes that half, or that register, alone. -/
def Obligations.FpRegisterViews : Prop :=
  ∀ (s : State) (i : FReg) (v : Word) (d : Dword),
    let odd := i.getLsbD 0 = true
    let even := i &&& ~~~1#5
    let cell := if s.fr then i else even
    let keeps := fun (t : State) => s.changesOnly t (· = .fpr cell)
    let t := s.setFgr32 i v
    s.fgr64 i = s.fprAt cell
    ∧ s.fgr32 i = (if s.fr = false ∧ odd then (s.fprAt even).extractLsb' 32 32 else (s.fprAt cell).extractLsb' 0 32)
    ∧ (s.setFgr64 i d).fprAt cell = d ∧ keeps (s.setFgr64 i d)
    ∧ keeps t
    ∧ (s.fr = false ∧ odd → (t.fprAt even).extractLsb' 32 32 = v
        ∧ (t.fprAt even).extractLsb' 0 32 = (s.fprAt even).extractLsb' 0 32)
    ∧ (¬ (s.fr = false ∧ odd) → (t.fprAt cell).extractLsb' 0 32 = v
        ∧ (t.fprAt cell).extractLsb' 32 32 = (s.fprAt cell).extractLsb' 32 32)

/-- The moves between registers and FPRs, and the FP control registers (R402 to R407): raw bits; CFC1 reads FCR0
and FCR31; CTC1 writes the writable bits of FCR31 and then raises FPE when the value has cause E or an enabled
cause, the write standing; FCR0 ignores it; the other control registers are refused. -/
def Obligations.FpuMoves : Prop :=
  ∀ (s : State) (rt : Reg) (fs : FReg), s.cu1 = true →
    let cell := fun p : Part => p = .fpr (s.fprCell fs)
    let w := (s.x rt).setWidth 32 &&& 0x0183FFFF#32
    writesGpr (.mfc1 rt fs) s rt (word32 (s.fgr32 fs).toInt)
    ∧ (s.ops64 = true → writesGpr (.dmfc1 rt fs) s rt (s.fgr64 fs))
    ∧ completes (.mtc1 rt fs) s cell (fun t => s.writes32 t fs ((s.x rt).setWidth 32))
    ∧ (s.ops64 = true → completes (.dmtc1 rt fs) s cell fun t => t.fgr64 fs = s.x rt)
    ∧ writesGpr (.cfc1 rt 0#5) s rt (word32 s.fcr0.toInt) ∧ writesGpr (.cfc1 rt 31#5) s rt (word32 s.fcr31.toInt)
    ∧ (w.getLsbD 17 = false ∧ w.extractLsb' 12 5 &&& w.extractLsb' 7 5 = 0#5 →
        completes (.ctc1 rt 31#5) s (· = .fcr31) fun t => t.fcr31 = w)
    ∧ (w.getLsbD 17 = true ∨ w.extractLsb' 12 5 &&& w.extractLsb' 7 5 ≠ 0#5 →
        exec (.ctc1 rt 31#5) s = .next ((s.setFcr31 w).takeException .fpe))
    ∧ completes (.ctc1 rt 0#5) s nothing (fun _ => True)
    ∧ (fs ≠ 0#5 → fs ≠ 31#5 → exec (.cfc1 rt fs) s = .refused (.noFpControlRegister fs)
        ∧ exec (.ctc1 rt fs) s = .refused (.noFpControlRegister fs))

/-! ### FPU arithmetic (47_fpu_arith) -/

/-- ADD and SUB of finite operands that are not subnormal (R431, R434, R436, R437): the exact sum rounded once, or
what CheckOutput makes of it; an exact zero has the common sign, and else is minus only toward minus infinity. The
model's readings: the common sign of two zeros (IEEE 754, log 23), overflow with an unbounded exponent (log 25). -/
def Obligations.FpAddSub : Prop :=
  ∀ (f : FpFmt) (s : State) (fd fs ft : FReg), s.cu1 = true →
    let a := s.fpRead f fs
    let b := s.fpRead f ft
    let finite := fun v => f.isNormal v ∨ f.isZero v
    finite a → finite b →
    let cell := fun p : Part => p = .fpr (s.fprCell fd)
    let result := fun (i : Instr) (x : ℚ) (nb : Bool) =>
      (x ≠ 0 → ∃ ans, f.answers s.fcr31 x ans ∧ fpSignals i s ans.exc cell fun t => s.writesFp t f fd ans.val)
      ∧ (x = 0 → fpSignals i s fpNone cell fun t => s.writesFp t f fd
          (f.zero (if f.isZero a ∧ f.neg a = nb then nb else decide (fcrRounding s.fcr31 = .rm))))
    result (.addFmt f fd fs ft) (f.number a + f.number b) (f.neg b)
    ∧ result (.subFmt f fd fs ft) (f.number a - f.number b) (!f.neg b)

/-- MUL, DIV and SQRT of finite operands that are not subnormal (R431, R434, R438 to R440): the exact product,
quotient or root rounded once, or what CheckOutput makes of it; the zero cases; division by zero signals Z with a
signed infinity; 0 / 0 and the root of a negative number are invalid. The model's readings: the sign of a zero
quotient (IEEE 754, log 23), overflow with an unbounded exponent (log 25). -/
def Obligations.FpMulDivSqrt : Prop :=
  ∀ (f : FpFmt) (s : State) (fd fs ft : FReg), s.cu1 = true →
    let a := s.fpRead f fs
    let b := s.fpRead f ft
    let x := f.number a
    let y := f.number b
    let finite := fun v => f.isNormal v ∨ f.isZero v
    finite a →
    let neg := f.neg a != f.neg b
    let cell := fun p : Part => p = .fpr (s.fprCell fd)
    let rounds := fun (i : Instr) (r : ℝ) =>
      ∃ ans, f.answers s.fcr31 r ans ∧ fpSignals i s ans.exc cell fun t => s.writesFp t f fd ans.val
    let gives := fun (i : Instr) (e : FpExc) (v : Dword) => fpSignals i s e cell fun t => s.writesFp t f fd v
    (finite b →
      (f.isNormal a ∧ f.isNormal b → rounds (.mulFmt f fd fs ft) (x * y) ∧ rounds (.divFmt f fd fs ft) (x / y))
      ∧ (f.isZero a ∨ f.isZero b → gives (.mulFmt f fd fs ft) fpNone (f.zero neg))
      ∧ (f.isZero a ∧ f.isNormal b → gives (.divFmt f fd fs ft) fpNone (f.zero neg))
      ∧ (f.isNormal a ∧ f.isZero b → gives (.divFmt f fd fs ft) fpZ (f.inf neg))
      ∧ (f.isZero a ∧ f.isZero b → gives (.divFmt f fd fs ft) fpV f.defaultNaN))
    ∧ (f.isZero a → gives (.sqrtFmt f fd fs) fpNone a)
    ∧ (f.isNormal a ∧ f.neg a = false → rounds (.sqrtFmt f fd fs) (Real.sqrt x))
    ∧ (f.isNormal a ∧ f.neg a = true → gives (.sqrtFmt f fd fs) fpV f.defaultNaN)

/-- Operands that are no numbers (R433, R435 to R443): a subnormal or Q-NaN operand signals E; else an S-NaN
operand signals V and, untrapped, gives the default NaN of the result's format; the infinities follow the rules of
each operation, and IEEE 754 where a rule is silent (the model's reading, log 23): infinities that do not cancel,
times and over a finite value, and the signs. -/
def Obligations.FpSpecialOperands : Prop :=
  ∀ (f : FpFmt) (s : State) (fd fs ft : FReg), s.cu1 = true →
    let a := s.fpRead f fs
    let b := s.fpRead f ft
    let finite := fun v => f.isNormal v ∨ f.isZero v
    let neg := f.neg a != f.neg b
    let gives := fun (i : Instr) (e : FpExc) (v : Dword) =>
      fpSignals i s e (fun p => p = .fpr (s.fprCell fd)) fun t => s.writesFp t f fd v
    let two := [Instr.addFmt f fd fs ft, .subFmt f fd fs ft, .mulFmt f fd fs ft, .divFmt f fd fs ft]
    let one := [Instr.sqrtFmt f fd fs, .absFmt f fd fs, .negFmt f fd fs]
    (∀ i ∈ two, (f.refuses a ∨ f.refuses b → gives i fpE 0#64)
      ∧ (¬ f.refuses a → ¬ f.refuses b → f.isSNaN a ∨ f.isSNaN b → gives i fpV f.defaultNaN))
    ∧ (∀ i ∈ one, (f.refuses a → gives i fpE 0#64) ∧ (f.isSNaN a → gives i fpV f.defaultNaN))
    ∧ (f.isInf a → f.isInf b →
        gives (.addFmt f fd fs ft) (if neg then fpV else fpNone) (if neg then f.defaultNaN else a)
        ∧ gives (.subFmt f fd fs ft) (if neg then fpNone else fpV) (if neg then a else f.defaultNaN)
        ∧ gives (.mulFmt f fd fs ft) fpNone (f.inf neg) ∧ gives (.divFmt f fd fs ft) fpV f.defaultNaN)
    ∧ (f.isInf a → finite b →
        gives (.addFmt f fd fs ft) fpNone a ∧ gives (.subFmt f fd fs ft) fpNone a
        ∧ gives (.divFmt f fd fs ft) fpNone (f.inf neg)
        ∧ (f.isZero b → gives (.mulFmt f fd fs ft) fpV f.defaultNaN)
        ∧ (f.isNormal b → gives (.mulFmt f fd fs ft) fpNone (f.inf neg)))
    ∧ (finite a → f.isInf b →
        gives (.addFmt f fd fs ft) fpNone b ∧ gives (.subFmt f fd fs ft) fpNone (f.inf (!f.neg b))
        ∧ gives (.divFmt f fd fs ft) fpNone (f.zero neg)
        ∧ (f.isZero a → gives (.mulFmt f fd fs ft) fpV f.defaultNaN)
        ∧ (f.isNormal a → gives (.mulFmt f fd fs ft) fpNone (f.inf neg)))
    ∧ (f.isInf a → f.neg a = false → gives (.sqrtFmt f fd fs) fpNone a)
    ∧ (f.isInf a → f.neg a = true → gives (.sqrtFmt f fd fs) fpV f.defaultNaN)

/-- ABS and NEG of an operand that is neither NaN nor subnormal change the sign bit alone and signal nothing; MOV
copies any bits and leaves FCR31 alone (R441 to R443). -/
def Obligations.FpAbsNegMov : Prop :=
  ∀ (f : FpFmt) (s : State) (fd fs : FReg), s.cu1 = true →
    let a := s.fpRead f fs
    let sign := f.frac + f.expBits
    let cell := fun p : Part => p = .fpr (s.fprCell fd)
    (f.isNormal a ∨ f.isZero a ∨ f.isInf a →
      (∃ v, fpSignals (.absFmt f fd fs) s fpNone cell (fun t => s.writesFp t f fd v)
        ∧ v.getLsbD sign = false ∧ ∀ k, k < 64 → k ≠ sign → v.getLsbD k = a.getLsbD k)
      ∧ ∃ v, fpSignals (.negFmt f fd fs) s fpNone cell (fun t => s.writesFp t f fd v)
        ∧ v.getLsbD sign = !a.getLsbD sign ∧ ∀ k, k < 64 → k ≠ sign → v.getLsbD k = a.getLsbD k)
    ∧ completes (.movFmt f fd fs) s cell fun t => s.writesFp t f fd a

/-- Conversion to fixed point (R473, R444 to R451, R454, R455): a NaN, an infinity or a subnormal signals E; else
the integer nearest in the direction of the mode, its own or FCR31's, is written when it is in range, with I when
it differs from the operand, and E is signalled when it is not. -/
def Obligations.FpToFixedPoint : Prop :=
  ∀ (f : FpFmt) (dst : FxFmt) (mode : Rounding) (s : State) (fd fs : FReg), s.cu1 = true →
    let a := s.fpRead f fs
    let x := f.number a
    let cell := fun p : Part => p = .fpr (s.fprCell fd)
    let converts := fun (i : Instr) (m : Rounding) =>
      (f.isSubnormal a ∨ f.isInf a ∨ f.isQNaN a ∨ f.isSNaN a → fpSignals i s fpE cell fun _ => True)
      ∧ (f.isNormal a ∨ f.isZero a → ∃ k, roundedToInt m x k
          ∧ (dst.inRange x k → fpSignals i s (if (k : ℚ) = x then fpNone else fpI) cell fun t => s.writesFx t dst fd k)
          ∧ (¬ dst.inRange x k → fpSignals i s fpE cell fun _ => True))
    converts (.toFxFmt mode dst f fd fs) mode ∧ converts (.cvtToFxFmt dst f fd fs) (fcrRounding s.fcr31)

/-- Conversion to floating point (R452, R453): an integer, of L within 56 bits, is rounded to the format, zero to
plus zero; an L operand outside signals E; CVT.S.D and CVT.D.S round the value of a normal operand, keep the sign
of a zero or infinity, and refuse or invalidate what R433 says. An S-NaN gives the default NaN of the result's
format (DEDUCED, log 14); the sign of a zero or infinity is IEEE 754's (log 23); overflow has an unbounded exponent
(log 25). -/
def Obligations.FpFromFixedPointAndBetweenFormats : Prop :=
  ∀ (s : State) (fd fs : FReg), s.cu1 = true →
    let cell := fun p : Part => p = .fpr (s.fprCell fd)
    (∀ (f : FpFmt) (src : FxFmt), let v := s.fxRead src fs
      let i := Instr.cvtFromFxFmt f src fd fs
      let inRange := src = .word ∨ (-2 ^ 55 ≤ v ∧ v < 2 ^ 55)
      (inRange → v ≠ 0 → ∃ ans, f.answers s.fcr31 v ans
        ∧ fpSignals i s ans.exc cell fun t => s.writesFp t f fd ans.val)
      ∧ (v = 0 → fpSignals i s fpNone cell fun t => s.writesFp t f fd (f.zero false))
      ∧ (¬ inRange → fpSignals i s fpE cell fun _ => True))
    ∧ ∀ (f g : FpFmt) (i : Instr), (f = .double ∧ g = .single ∧ i = .cvtSD fd fs)
        ∨ (f = .single ∧ g = .double ∧ i = .cvtDS fd fs) →
      let a := s.fpRead f fs
      (f.isNormal a → ∃ ans, g.answers s.fcr31 (f.number a : ℚ) ans
        ∧ fpSignals i s ans.exc cell fun t => s.writesFp t g fd ans.val)
      ∧ (f.isZero a → fpSignals i s fpNone cell fun t => s.writesFp t g fd (g.zero (f.neg a)))
      ∧ (f.isInf a → fpSignals i s fpNone cell fun t => s.writesFp t g fd (g.inf (f.neg a)))
      ∧ (f.refuses a → fpSignals i s fpE cell fun _ => True)
      ∧ (f.isSNaN a → fpSignals i s fpV cell fun t => s.writesFp t g fd g.defaultNaN)

/-- The sixteen comparisons (R456 to R472): with no NaN, C is `less`, `equal` by value as the condition's bits 2
and 1 ask, minus zero equal to plus zero, infinities in order, and no cause is left; with a NaN, C is bit 0 of the
condition, and V is signalled when bit 3 asks or an operand is an S-NaN; a trap leaves C. -/
def Obligations.FpComparisons : Prop :=
  ∀ (f : FpFmt) (cond : BitVec 4) (s : State) (fs ft : FReg), s.cu1 = true →
    let a := s.fpRead f fs
    let b := s.fpRead f ft
    let i := Instr.compareFmt f cond fs ft
    let nan := fun v => f.isQNaN v ∨ f.isSNaN v
    let value := fun v => if f.isInf v then (if f.neg v then -(2 : ℚ) ^ 1024 else 2 ^ 1024) else f.number v
    let writesC := fun (e : FpExc) (c : Bool) => ∃ g, fcrSignals s.fcr31 g e
      ∧ exec i s = .next (s.setFcr31 (fcrSetC g c))
    (¬ nan a → ¬ nan b → writesC fpNone
      (cond.getLsbD 2 && decide (value a < value b) || cond.getLsbD 1 && decide (value a = value b)))
    ∧ (nan a ∨ nan b →
      let invalid := cond.getLsbD 3 = true ∨ f.isSNaN a ∨ f.isSNaN b
      (¬ invalid → writesC fpNone (cond.getLsbD 0))
      ∧ (invalid → s.fcr31.getLsbD 11 = false → writesC fpV (cond.getLsbD 0))
      ∧ (invalid → s.fcr31.getLsbD 11 = true →
          ∃ g, fcrTraps s.fcr31 g fpV ∧ exec i s = .next ((s.setFcr31 g).takeException .fpe)))

/-- Every arithmetic, conversion and comparison instruction completes, with only FCR31 and its destination changed,
when CU1 is set, no cause is enabled, tiny results are flushed (FS), and no operand makes it unimplemented: not
subnormal and no Q-NaN for the arithmetic, normal or zero and in range (for W by the rounded integer, for L by the
operand) for the conversions to fixed point, within 56 bits for those from L, anything for the comparisons (R432 to
R434, R456, R473). -/
def Obligations.FpOperationsComplete : Prop :=
  ∀ (f : FpFmt) (s : State) (fd fs ft : FReg) (mode : Rounding) (cond : BitVec 4), s.cu1 = true →
    fcrEnable s.fcr31 = 0#5 → s.fcr31.getLsbD 24 = true →
    let a := s.fpRead f fs
    let b := s.fpRead f ft
    let done := fun (i : Instr) => ∃ e : FpExc, completes i s (fun p => p = .fcr31 ∨ p = .fpr (s.fprCell fd))
      fun t => fcrSignals s.fcr31 t.fcr31 e
    (¬ f.refuses a → ¬ f.refuses b →
      done (.addFmt f fd fs ft) ∧ done (.subFmt f fd fs ft) ∧ done (.mulFmt f fd fs ft) ∧ done (.divFmt f fd fs ft))
    ∧ (¬ f.refuses a → done (.sqrtFmt f fd fs) ∧ done (.absFmt f fd fs) ∧ done (.negFmt f fd fs))
    ∧ (f.isNormal a ∨ f.isZero a →
        ∀ (dst : FxFmt) (k : ℤ), dst.inRange (f.number a) k →
          (roundedToInt mode (f.number a) k → done (.toFxFmt mode dst f fd fs))
          ∧ (roundedToInt (fcrRounding s.fcr31) (f.number a) k → done (.cvtToFxFmt dst f fd fs)))
    ∧ (¬ FpFmt.double.refuses (s.fpRead .double fs) → done (.cvtSD fd fs))
    ∧ (¬ FpFmt.single.refuses (s.fpRead .single fs) → done (.cvtDS fd fs))
    ∧ done (.cvtSW fd fs) ∧ done (.cvtDW fd fs)
    ∧ (-2 ^ 55 ≤ s.fxRead .long fs ∧ s.fxRead .long fs < 2 ^ 55 → done (.cvtSL fd fs) ∧ done (.cvtDL fd fs))
    ∧ completes (.compareFmt f cond fs ft) s (· = .fcr31) fun _ => True

end
end

