-- ==== Sys2Proof/Laws/Memory.lean ====
section
/-! SUPPORT. Laws/Memory.lean: the memory reads what was written, leaves every other byte, and keeps its
canonical form. -/

namespace Sys2Proof.Machine

/-! ### One byte -/

@[simp] theorem Memory.read_nil (a : Nat) : Memory.read [] a = Config.unwrittenByte := rfl

theorem Memory.read_cons (k : Nat) (b : Byte) (m : Memory) (a : Nat) :
    Memory.read ((k, b) :: m) a = if k = a then b else Memory.read m a := rfl

/-- Below the first listed address everything is unwritten. -/
theorem Memory.read_of_lt {n : Nat} {m : Memory} (h : Memory.wfFrom n m = true) {a : Nat} (ha : a < n) :
    Memory.read m a = Config.unwrittenByte := by
  induction m generalizing n with
  | nil => rfl
  | cons p m ih =>
    obtain ⟨k, b⟩ := p
    simp only [Memory.wfFrom, Bool.and_eq_true, decide_eq_true_eq] at h
    rw [Memory.read_cons, if_neg (by omega)]
    exact ih h.2 (by omega)

/-- The form from an address on is the form from a lower one on. -/
theorem Memory.wfFrom_mono {n k : Nat} {m : Memory} (h : Memory.wfFrom n m = true) (hk : k ≤ n) :
    Memory.wfFrom k m = true := by
  cases m with
  | nil => rfl
  | cons p m =>
    obtain ⟨q, b⟩ := p
    simp only [Memory.wfFrom, Bool.and_eq_true, decide_eq_true_eq] at h ⊢
    exact ⟨⟨⟨by omega, h.1.1.2⟩, h.1.2⟩, h.2⟩

/-- The form of a list, taken apart. -/
theorem Memory.wfFrom_cons (n k : Nat) (b : Byte) (m : Memory) :
    Memory.wfFrom n ((k, b) :: m) = true ↔
      n ≤ k ∧ k < 2 ^ 32 ∧ b ≠ Config.unwrittenByte ∧ Memory.wfFrom (k + 1) m = true := by
  simp [Memory.wfFrom, and_assoc]

/-- A byte reads back as written. -/
theorem Memory.read_write_same {n : Nat} {m : Memory} (h : Memory.wfFrom n m = true) (a : Nat) (v : Byte) :
    Memory.read (Memory.write m a v) a = v := by
  induction m generalizing n with
  | nil => unfold Memory.write; split <;> simp_all [Memory.read]
  | cons p m ih =>
    obtain ⟨k, b⟩ := p
    rw [Memory.wfFrom_cons] at h
    obtain ⟨_, hk, hb, hm⟩ := h
    unfold Memory.write
    by_cases h1 : a < k
    · by_cases h2 : v = Config.unwrittenByte
      · simp only [h1, h2, if_true]
        exact Memory.read_of_lt (n := k) ((Memory.wfFrom_cons ..).2 ⟨Nat.le_refl _, hk, hb, hm⟩) h1
      · simp [h1, h2, Memory.read_cons]
    · by_cases h3 : a = k
      · subst h3
        by_cases h2 : v = Config.unwrittenByte
        · simp only [h2, Nat.lt_irrefl, if_true, if_false]
          exact Memory.read_of_lt hm (Nat.lt_succ_self a)
        · simp [h2, Memory.read_cons]
      · simp only [h1, h3, if_false, Memory.read_cons, if_neg (Ne.symm h3)]
        exact ih hm

/-- A write leaves every other byte. -/
theorem Memory.read_write_of_ne {n : Nat} {m : Memory} (h : Memory.wfFrom n m = true) {a c : Nat} (v : Byte)
    (hc : c ≠ a) : Memory.read (Memory.write m a v) c = Memory.read m c := by
  induction m generalizing n with
  | nil => unfold Memory.write; split <;> simp [Memory.read, Ne.symm hc]
  | cons p m ih =>
    obtain ⟨k, b⟩ := p
    rw [Memory.wfFrom_cons] at h
    obtain ⟨_, hk, hb, hm⟩ := h
    unfold Memory.write
    by_cases h1 : a < k
    · by_cases h2 : v = Config.unwrittenByte <;> simp [h1, h2, Memory.read_cons, Ne.symm hc]
    · by_cases h3 : a = k
      · subst h3
        by_cases h2 : v = Config.unwrittenByte <;> simp [h2, Memory.read_cons, Ne.symm hc]
      · simp only [h1, h3, if_false, Memory.read_cons, ih hm]

/-- A write keeps the canonical form. -/
theorem Memory.wfFrom_write {n : Nat} {m : Memory} (h : Memory.wfFrom n m = true) {a : Nat} (v : Byte)
    (hn : n ≤ a) (ha : a < 2 ^ 32) : Memory.wfFrom n (Memory.write m a v) = true := by
  induction m generalizing n with
  | nil => unfold Memory.write; split <;> simp_all [Memory.wfFrom]
  | cons p m ih =>
    obtain ⟨k, b⟩ := p
    have hw := h
    rw [Memory.wfFrom_cons] at h
    obtain ⟨hnk, hk, hb, hm⟩ := h
    unfold Memory.write
    by_cases h1 : a < k
    · by_cases h2 : v = Config.unwrittenByte
      · simpa [h1, h2] using hw
      · simp only [h1, h2, if_true, if_false, Memory.wfFrom_cons]
        exact ⟨hn, ha, h2, by omega, hk, hb, hm⟩
    · by_cases h3 : a = k
      · subst h3
        by_cases h2 : v = Config.unwrittenByte
        · simpa [h2] using Memory.wfFrom_mono hm (by omega)
        · simp only [h2, Nat.lt_irrefl, if_true, if_false, Memory.wfFrom_cons]
          exact ⟨hn, ha, h2, hm⟩
      · simp only [h1, h3, if_false, Memory.wfFrom_cons]
        exact ⟨hnk, hk, hb, ih hm (by omega)⟩

/-- Equal readings make equal memories: the form is canonical. -/
theorem Memory.ext_of_read {n : Nat} {m l : Memory} (hm : Memory.wfFrom n m = true)
    (hl : Memory.wfFrom n l = true) (h : ∀ a, Memory.read m a = Memory.read l a) : m = l := by
  induction m generalizing n l with
  | nil =>
    cases l with
    | nil => rfl
    | cons p l =>
      obtain ⟨k, b⟩ := p
      rw [Memory.wfFrom_cons] at hl
      have := h k
      simp only [Memory.read_nil, Memory.read_cons, if_true] at this
      exact absurd this.symm hl.2.2.1
  | cons p m ih =>
    obtain ⟨k, b⟩ := p
    rw [Memory.wfFrom_cons] at hm
    cases l with
    | nil =>
      have := h k
      simp only [Memory.read_nil, Memory.read_cons, if_true] at this
      exact absurd this hm.2.2.1
    | cons q l =>
      obtain ⟨j, c⟩ := q
      rw [Memory.wfFrom_cons] at hl
      have hjk : j = k := by
        rcases Nat.lt_trichotomy j k with hlt | he | hgt
        · have := h j
          simp only [Memory.read_cons, if_true, if_neg (by omega : ¬ k = j)] at this
          rw [Memory.read_of_lt hm.2.2.2 (by omega)] at this
          exact absurd this.symm hl.2.2.1
        · exact he
        · have := h k
          simp only [Memory.read_cons, if_true, if_neg (by omega : ¬ j = k)] at this
          rw [Memory.read_of_lt hl.2.2.2 (by omega)] at this
          exact absurd this hm.2.2.1
      subst hjk
      have hb := h j
      simp only [Memory.read_cons, if_true] at hb
      subst hb
      rw [ih hm.2.2.2 hl.2.2.2 fun a => ?_]
      by_cases ha : j = a
      · rw [Memory.read_of_lt hm.2.2.2 (by omega), Memory.read_of_lt hl.2.2.2 (by omega)]
      · have := h a
        simpa only [Memory.read_cons, if_neg ha] using this

/-! ### The canonical form under the bus accesses -/

theorem Memory.wf_write8 {m : Memory} (h : m.wf = true) (pa : Word) (v : Byte) : (m.write8 pa v).wf = true :=
  Memory.wfFrom_write h v (Nat.zero_le _) pa.isLt

theorem Memory.wf_write16 {m : Memory} (h : m.wf = true) (pa : Word) (v : Half) : (m.write16 pa v).wf = true :=
  Memory.wf_write8 (Memory.wf_write8 h _ _) _ _

theorem Memory.wf_write32 {m : Memory} (h : m.wf = true) (pa : Word) (v : Word) : (m.write32 pa v).wf = true :=
  Memory.wf_write16 (Memory.wf_write16 h _ _) _ _

theorem Memory.wf_write64 {m : Memory} (h : m.wf = true) (pa : Word) (v : Dword) : (m.write64 pa v).wf = true :=
  Memory.wf_write32 (Memory.wf_write32 h _ _) _ _

/-- The memory at reset has the canonical form. -/
theorem Memory.wf_reset : State.reset.mem.wf = true := rfl

/-- A byte access reads what was written there and the old byte elsewhere. -/
theorem Memory.read_write8 {m : Memory} (h : m.wf = true) (pa : Word) (v : Byte) (a : Nat) :
    Memory.read (m.write8 pa v) a = if a = pa.toNat then v else Memory.read m a := by
  unfold Memory.write8
  split
  · next e => subst e; exact Memory.read_write_same h _ _
  · next e => exact Memory.read_write_of_ne h _ e

theorem Memory.read8_def (m : Memory) (pa : Word) : m.read8 pa = Memory.read m pa.toNat := rfl

/-- Reading the halfword just written. -/
theorem Memory.read_write16 {m : Memory} (h : m.wf = true) (pa : Word) (v : Half) (a : Nat) :
    Memory.read (m.write16 pa v) a =
      if a = (pa + 1#32).toNat then v.extractLsb' 0 8 else if a = pa.toNat then v.extractLsb' 8 8
      else Memory.read m a := by
  unfold Memory.write16
  rw [Memory.read_write8 (Memory.wf_write8 h _ _), Memory.read_write8 h]

/-- A slice of a slice. -/
theorem extract_extract {w : Nat} (v : BitVec w) {i j n k : Nat} (h : j + k ≤ n) :
    (v.extractLsb' i n).extractLsb' j k = v.extractLsb' (i + j) k := by
  ext b hb
  simp only [BitVec.getElem_extractLsb', BitVec.getLsbD_extractLsb', Nat.add_assoc]
  simp [show j + b < n by omega]

/-- Every byte after a word store. -/
theorem Memory.read_write32 {m : Memory} (h : m.wf = true) (pa : Word) (v : Word) (a : Nat) :
    Memory.read (m.write32 pa v) a =
      if a = (pa + 3#32).toNat then v.extractLsb' 0 8 else if a = (pa + 2#32).toNat then v.extractLsb' 8 8
      else if a = (pa + 1#32).toNat then v.extractLsb' 16 8 else if a = pa.toNat then v.extractLsb' 24 8
      else Memory.read m a := by
  unfold Memory.write32
  rw [Memory.read_write16 (Memory.wf_write16 h _ _), Memory.read_write16 h, BitVec.add_assoc]
  simp only [extract_extract v (show 0 + 8 ≤ 16 by omega), extract_extract v (show 8 + 8 ≤ 16 by omega)]
  rfl

/-- Every byte after a doubleword store. -/
theorem Memory.read_write64 {m : Memory} (h : m.wf = true) (pa : Word) (v : Dword) (a : Nat) :
    Memory.read (m.write64 pa v) a =
      if a = (pa + 7#32).toNat then v.extractLsb' 0 8 else if a = (pa + 6#32).toNat then v.extractLsb' 8 8
      else if a = (pa + 5#32).toNat then v.extractLsb' 16 8 else if a = (pa + 4#32).toNat then v.extractLsb' 24 8
      else if a = (pa + 3#32).toNat then v.extractLsb' 32 8 else if a = (pa + 2#32).toNat then v.extractLsb' 40 8
      else if a = (pa + 1#32).toNat then v.extractLsb' 48 8 else if a = pa.toNat then v.extractLsb' 56 8
      else Memory.read m a := by
  unfold Memory.write64
  rw [Memory.read_write32 (Memory.wf_write32 h _ _), Memory.read_write32 h]
  simp only [BitVec.add_assoc, extract_extract v (show 0 + 8 ≤ 32 by omega),
    extract_extract v (show 8 + 8 ≤ 32 by omega), extract_extract v (show 16 + 8 ≤ 32 by omega),
    extract_extract v (show 24 + 8 ≤ 32 by omega)]
  rfl

end Sys2Proof.Machine
end

