-- ==== Sys2Proof/Laws/State.lean ====
section
/-! SUPPORT. Laws/State.lean: the fields of an updated state, one lemma per field per update, so that no later
proof unfolds a record update. -/

namespace Sys2Proof.Machine

variable (s : State)

/-! ### setX -/

@[simp] theorem State.setX_hi (r : Reg) (v : Dword) : (s.setX r v).hi = s.hi := by unfold State.setX; split <;> rfl
@[simp] theorem State.setX_lo (r : Reg) (v : Dword) : (s.setX r v).lo = s.lo := by unfold State.setX; split <;> rfl
@[simp] theorem State.setX_pc (r : Reg) (v : Dword) : (s.setX r v).pc = s.pc := by unfold State.setX; split <;> rfl
@[simp] theorem State.setX_nextPc (r : Reg) (v : Dword) : (s.setX r v).nextPc = s.nextPc := by unfold State.setX; split <;> rfl
@[simp] theorem State.setX_prevPc (r : Reg) (v : Dword) : (s.setX r v).prevPc = s.prevPc := by unfold State.setX; split <;> rfl
@[simp] theorem State.setX_branchPending (r : Reg) (v : Dword) : (s.setX r v).branchPending = s.branchPending := by unfold State.setX; split <;> rfl
@[simp] theorem State.setX_inDelaySlot (r : Reg) (v : Dword) : (s.setX r v).inDelaySlot = s.inDelaySlot := by unfold State.setX; split <;> rfl
@[simp] theorem State.setX_llbit (r : Reg) (v : Dword) : (s.setX r v).llbit = s.llbit := by unfold State.setX; split <;> rfl
@[simp] theorem State.setX_fpr (r : Reg) (v : Dword) : (s.setX r v).fpr = s.fpr := by unfold State.setX; split <;> rfl
@[simp] theorem State.setX_fcr0 (r : Reg) (v : Dword) : (s.setX r v).fcr0 = s.fcr0 := by unfold State.setX; split <;> rfl
@[simp] theorem State.setX_fcr31 (r : Reg) (v : Dword) : (s.setX r v).fcr31 = s.fcr31 := by unfold State.setX; split <;> rfl
@[simp] theorem State.setX_cp0 (r : Reg) (v : Dword) : (s.setX r v).cp0 = s.cp0 := by unfold State.setX; split <;> rfl
@[simp] theorem State.setX_tlb (r : Reg) (v : Dword) : (s.setX r v).tlb = s.tlb := by unfold State.setX; split <;> rfl
@[simp] theorem State.setX_mem (r : Reg) (v : Dword) : (s.setX r v).mem = s.mem := by unfold State.setX; split <;> rfl
@[simp] theorem State.setX_busMap (r : Reg) (v : Dword) : (s.setX r v).busMap = s.busMap := by unfold State.setX; split <;> rfl
@[simp] theorem State.setX_busTrace (r : Reg) (v : Dword) : (s.setX r v).busTrace = s.busTrace := by unfold State.setX; split <;> rfl
@[simp] theorem State.setX_extInt (r : Reg) (v : Dword) : (s.setX r v).extInt = s.extInt := by unfold State.setX; split <;> rfl
@[simp] theorem State.setX_extIntNext (r : Reg) (v : Dword) : (s.setX r v).extIntNext = s.extIntNext := by unfold State.setX; split <;> rfl
@[simp] theorem State.setX_countInc (r : Reg) (v : Dword) : (s.setX r v).countInc = s.countInc := by unfold State.setX; split <;> rfl
@[simp] theorem State.setX_randomPolicy (r : Reg) (v : Dword) : (s.setX r v).randomPolicy = s.randomPolicy := by unfold State.setX; split <;> rfl
@[simp] theorem State.setX_freeIx (r : Reg) (v : Dword) : (s.setX r v).freeIx = s.freeIx := by unfold State.setX; split <;> rfl

/-! ### setHiLo -/

@[simp] theorem State.setHiLo_gpr (h l : Dword) : (s.setHiLo h l).gpr = s.gpr := rfl
@[simp] theorem State.setHiLo_hi (h l : Dword) : (s.setHiLo h l).hi = h := rfl
@[simp] theorem State.setHiLo_lo (h l : Dword) : (s.setHiLo h l).lo = l := rfl
@[simp] theorem State.setHiLo_pc (h l : Dword) : (s.setHiLo h l).pc = s.pc := rfl
@[simp] theorem State.setHiLo_nextPc (h l : Dword) : (s.setHiLo h l).nextPc = s.nextPc := rfl
@[simp] theorem State.setHiLo_prevPc (h l : Dword) : (s.setHiLo h l).prevPc = s.prevPc := rfl
@[simp] theorem State.setHiLo_branchPending (h l : Dword) : (s.setHiLo h l).branchPending = s.branchPending := rfl
@[simp] theorem State.setHiLo_inDelaySlot (h l : Dword) : (s.setHiLo h l).inDelaySlot = s.inDelaySlot := rfl
@[simp] theorem State.setHiLo_llbit (h l : Dword) : (s.setHiLo h l).llbit = s.llbit := rfl
@[simp] theorem State.setHiLo_fpr (h l : Dword) : (s.setHiLo h l).fpr = s.fpr := rfl
@[simp] theorem State.setHiLo_fcr0 (h l : Dword) : (s.setHiLo h l).fcr0 = s.fcr0 := rfl
@[simp] theorem State.setHiLo_fcr31 (h l : Dword) : (s.setHiLo h l).fcr31 = s.fcr31 := rfl
@[simp] theorem State.setHiLo_cp0 (h l : Dword) : (s.setHiLo h l).cp0 = s.cp0 := rfl
@[simp] theorem State.setHiLo_tlb (h l : Dword) : (s.setHiLo h l).tlb = s.tlb := rfl
@[simp] theorem State.setHiLo_mem (h l : Dword) : (s.setHiLo h l).mem = s.mem := rfl
@[simp] theorem State.setHiLo_busMap (h l : Dword) : (s.setHiLo h l).busMap = s.busMap := rfl
@[simp] theorem State.setHiLo_busTrace (h l : Dword) : (s.setHiLo h l).busTrace = s.busTrace := rfl
@[simp] theorem State.setHiLo_extInt (h l : Dword) : (s.setHiLo h l).extInt = s.extInt := rfl
@[simp] theorem State.setHiLo_extIntNext (h l : Dword) : (s.setHiLo h l).extIntNext = s.extIntNext := rfl
@[simp] theorem State.setHiLo_countInc (h l : Dword) : (s.setHiLo h l).countInc = s.countInc := rfl
@[simp] theorem State.setHiLo_randomPolicy (h l : Dword) : (s.setHiLo h l).randomPolicy = s.randomPolicy := rfl
@[simp] theorem State.setHiLo_freeIx (h l : Dword) : (s.setHiLo h l).freeIx = s.freeIx := rfl

/-! ### setMem -/

@[simp] theorem State.setMem_gpr (m : Memory) : (s.setMem m).gpr = s.gpr := rfl
@[simp] theorem State.setMem_hi (m : Memory) : (s.setMem m).hi = s.hi := rfl
@[simp] theorem State.setMem_lo (m : Memory) : (s.setMem m).lo = s.lo := rfl
@[simp] theorem State.setMem_pc (m : Memory) : (s.setMem m).pc = s.pc := rfl
@[simp] theorem State.setMem_nextPc (m : Memory) : (s.setMem m).nextPc = s.nextPc := rfl
@[simp] theorem State.setMem_prevPc (m : Memory) : (s.setMem m).prevPc = s.prevPc := rfl
@[simp] theorem State.setMem_branchPending (m : Memory) : (s.setMem m).branchPending = s.branchPending := rfl
@[simp] theorem State.setMem_inDelaySlot (m : Memory) : (s.setMem m).inDelaySlot = s.inDelaySlot := rfl
@[simp] theorem State.setMem_llbit (m : Memory) : (s.setMem m).llbit = s.llbit := rfl
@[simp] theorem State.setMem_fpr (m : Memory) : (s.setMem m).fpr = s.fpr := rfl
@[simp] theorem State.setMem_fcr0 (m : Memory) : (s.setMem m).fcr0 = s.fcr0 := rfl
@[simp] theorem State.setMem_fcr31 (m : Memory) : (s.setMem m).fcr31 = s.fcr31 := rfl
@[simp] theorem State.setMem_cp0 (m : Memory) : (s.setMem m).cp0 = s.cp0 := rfl
@[simp] theorem State.setMem_tlb (m : Memory) : (s.setMem m).tlb = s.tlb := rfl
@[simp] theorem State.setMem_mem (m : Memory) : (s.setMem m).mem = m := rfl
@[simp] theorem State.setMem_busMap (m : Memory) : (s.setMem m).busMap = s.busMap := rfl
@[simp] theorem State.setMem_busTrace (m : Memory) : (s.setMem m).busTrace = s.busTrace := rfl
@[simp] theorem State.setMem_extInt (m : Memory) : (s.setMem m).extInt = s.extInt := rfl
@[simp] theorem State.setMem_extIntNext (m : Memory) : (s.setMem m).extIntNext = s.extIntNext := rfl
@[simp] theorem State.setMem_countInc (m : Memory) : (s.setMem m).countInc = s.countInc := rfl
@[simp] theorem State.setMem_randomPolicy (m : Memory) : (s.setMem m).randomPolicy = s.randomPolicy := rfl
@[simp] theorem State.setMem_freeIx (m : Memory) : (s.setMem m).freeIx = s.freeIx := rfl

/-! ### traced -/

@[simp] theorem State.traced_gpr (a : BusAccess) : (s.traced a).gpr = s.gpr := rfl
@[simp] theorem State.traced_hi (a : BusAccess) : (s.traced a).hi = s.hi := rfl
@[simp] theorem State.traced_lo (a : BusAccess) : (s.traced a).lo = s.lo := rfl
@[simp] theorem State.traced_pc (a : BusAccess) : (s.traced a).pc = s.pc := rfl
@[simp] theorem State.traced_nextPc (a : BusAccess) : (s.traced a).nextPc = s.nextPc := rfl
@[simp] theorem State.traced_prevPc (a : BusAccess) : (s.traced a).prevPc = s.prevPc := rfl
@[simp] theorem State.traced_branchPending (a : BusAccess) : (s.traced a).branchPending = s.branchPending := rfl
@[simp] theorem State.traced_inDelaySlot (a : BusAccess) : (s.traced a).inDelaySlot = s.inDelaySlot := rfl
@[simp] theorem State.traced_llbit (a : BusAccess) : (s.traced a).llbit = s.llbit := rfl
@[simp] theorem State.traced_fpr (a : BusAccess) : (s.traced a).fpr = s.fpr := rfl
@[simp] theorem State.traced_fcr0 (a : BusAccess) : (s.traced a).fcr0 = s.fcr0 := rfl
@[simp] theorem State.traced_fcr31 (a : BusAccess) : (s.traced a).fcr31 = s.fcr31 := rfl
@[simp] theorem State.traced_cp0 (a : BusAccess) : (s.traced a).cp0 = s.cp0 := rfl
@[simp] theorem State.traced_tlb (a : BusAccess) : (s.traced a).tlb = s.tlb := rfl
@[simp] theorem State.traced_mem (a : BusAccess) : (s.traced a).mem = s.mem := rfl
@[simp] theorem State.traced_busMap (a : BusAccess) : (s.traced a).busMap = s.busMap := rfl
@[simp] theorem State.traced_busTrace (a : BusAccess) : (s.traced a).busTrace = a :: s.busTrace := rfl
@[simp] theorem State.traced_extInt (a : BusAccess) : (s.traced a).extInt = s.extInt := rfl
@[simp] theorem State.traced_extIntNext (a : BusAccess) : (s.traced a).extIntNext = s.extIntNext := rfl
@[simp] theorem State.traced_countInc (a : BusAccess) : (s.traced a).countInc = s.countInc := rfl
@[simp] theorem State.traced_randomPolicy (a : BusAccess) : (s.traced a).randomPolicy = s.randomPolicy := rfl
@[simp] theorem State.traced_freeIx (a : BusAccess) : (s.traced a).freeIx = s.freeIx := rfl

/-! ### afterRead -/

@[simp] theorem State.afterRead_gpr (pa : Word) (n : Nat) : (s.afterRead pa n).gpr = s.gpr := by unfold State.afterRead; split <;> rfl
@[simp] theorem State.afterRead_hi (pa : Word) (n : Nat) : (s.afterRead pa n).hi = s.hi := by unfold State.afterRead; split <;> rfl
@[simp] theorem State.afterRead_lo (pa : Word) (n : Nat) : (s.afterRead pa n).lo = s.lo := by unfold State.afterRead; split <;> rfl
@[simp] theorem State.afterRead_pc (pa : Word) (n : Nat) : (s.afterRead pa n).pc = s.pc := by unfold State.afterRead; split <;> rfl
@[simp] theorem State.afterRead_nextPc (pa : Word) (n : Nat) : (s.afterRead pa n).nextPc = s.nextPc := by unfold State.afterRead; split <;> rfl
@[simp] theorem State.afterRead_prevPc (pa : Word) (n : Nat) : (s.afterRead pa n).prevPc = s.prevPc := by unfold State.afterRead; split <;> rfl
@[simp] theorem State.afterRead_branchPending (pa : Word) (n : Nat) : (s.afterRead pa n).branchPending = s.branchPending := by unfold State.afterRead; split <;> rfl
@[simp] theorem State.afterRead_inDelaySlot (pa : Word) (n : Nat) : (s.afterRead pa n).inDelaySlot = s.inDelaySlot := by unfold State.afterRead; split <;> rfl
@[simp] theorem State.afterRead_llbit (pa : Word) (n : Nat) : (s.afterRead pa n).llbit = s.llbit := by unfold State.afterRead; split <;> rfl
@[simp] theorem State.afterRead_fpr (pa : Word) (n : Nat) : (s.afterRead pa n).fpr = s.fpr := by unfold State.afterRead; split <;> rfl
@[simp] theorem State.afterRead_fcr0 (pa : Word) (n : Nat) : (s.afterRead pa n).fcr0 = s.fcr0 := by unfold State.afterRead; split <;> rfl
@[simp] theorem State.afterRead_fcr31 (pa : Word) (n : Nat) : (s.afterRead pa n).fcr31 = s.fcr31 := by unfold State.afterRead; split <;> rfl
@[simp] theorem State.afterRead_cp0 (pa : Word) (n : Nat) : (s.afterRead pa n).cp0 = s.cp0 := by unfold State.afterRead; split <;> rfl
@[simp] theorem State.afterRead_tlb (pa : Word) (n : Nat) : (s.afterRead pa n).tlb = s.tlb := by unfold State.afterRead; split <;> rfl
@[simp] theorem State.afterRead_mem (pa : Word) (n : Nat) : (s.afterRead pa n).mem = s.mem := by unfold State.afterRead; split <;> rfl
@[simp] theorem State.afterRead_busMap (pa : Word) (n : Nat) : (s.afterRead pa n).busMap = s.busMap := by unfold State.afterRead; split <;> rfl
@[simp] theorem State.afterRead_extInt (pa : Word) (n : Nat) : (s.afterRead pa n).extInt = s.extInt := by unfold State.afterRead; split <;> rfl
@[simp] theorem State.afterRead_extIntNext (pa : Word) (n : Nat) : (s.afterRead pa n).extIntNext = s.extIntNext := by unfold State.afterRead; split <;> rfl
@[simp] theorem State.afterRead_countInc (pa : Word) (n : Nat) : (s.afterRead pa n).countInc = s.countInc := by unfold State.afterRead; split <;> rfl
@[simp] theorem State.afterRead_randomPolicy (pa : Word) (n : Nat) : (s.afterRead pa n).randomPolicy = s.randomPolicy := by unfold State.afterRead; split <;> rfl
@[simp] theorem State.afterRead_freeIx (pa : Word) (n : Nat) : (s.afterRead pa n).freeIx = s.freeIx := by unfold State.afterRead; split <;> rfl

/-! ### busWrite -/

@[simp] theorem State.busWrite_gpr (pa : Word) (n : Nat) (v : Dword) (m : Memory) : (s.busWrite pa n v m).gpr = s.gpr := by unfold State.busWrite; split <;> rfl
@[simp] theorem State.busWrite_hi (pa : Word) (n : Nat) (v : Dword) (m : Memory) : (s.busWrite pa n v m).hi = s.hi := by unfold State.busWrite; split <;> rfl
@[simp] theorem State.busWrite_lo (pa : Word) (n : Nat) (v : Dword) (m : Memory) : (s.busWrite pa n v m).lo = s.lo := by unfold State.busWrite; split <;> rfl
@[simp] theorem State.busWrite_pc (pa : Word) (n : Nat) (v : Dword) (m : Memory) : (s.busWrite pa n v m).pc = s.pc := by unfold State.busWrite; split <;> rfl
@[simp] theorem State.busWrite_nextPc (pa : Word) (n : Nat) (v : Dword) (m : Memory) : (s.busWrite pa n v m).nextPc = s.nextPc := by unfold State.busWrite; split <;> rfl
@[simp] theorem State.busWrite_prevPc (pa : Word) (n : Nat) (v : Dword) (m : Memory) : (s.busWrite pa n v m).prevPc = s.prevPc := by unfold State.busWrite; split <;> rfl
@[simp] theorem State.busWrite_branchPending (pa : Word) (n : Nat) (v : Dword) (m : Memory) : (s.busWrite pa n v m).branchPending = s.branchPending := by unfold State.busWrite; split <;> rfl
@[simp] theorem State.busWrite_inDelaySlot (pa : Word) (n : Nat) (v : Dword) (m : Memory) : (s.busWrite pa n v m).inDelaySlot = s.inDelaySlot := by unfold State.busWrite; split <;> rfl
@[simp] theorem State.busWrite_llbit (pa : Word) (n : Nat) (v : Dword) (m : Memory) : (s.busWrite pa n v m).llbit = s.llbit := by unfold State.busWrite; split <;> rfl
@[simp] theorem State.busWrite_fpr (pa : Word) (n : Nat) (v : Dword) (m : Memory) : (s.busWrite pa n v m).fpr = s.fpr := by unfold State.busWrite; split <;> rfl
@[simp] theorem State.busWrite_fcr0 (pa : Word) (n : Nat) (v : Dword) (m : Memory) : (s.busWrite pa n v m).fcr0 = s.fcr0 := by unfold State.busWrite; split <;> rfl
@[simp] theorem State.busWrite_fcr31 (pa : Word) (n : Nat) (v : Dword) (m : Memory) : (s.busWrite pa n v m).fcr31 = s.fcr31 := by unfold State.busWrite; split <;> rfl
@[simp] theorem State.busWrite_cp0 (pa : Word) (n : Nat) (v : Dword) (m : Memory) : (s.busWrite pa n v m).cp0 = s.cp0 := by unfold State.busWrite; split <;> rfl
@[simp] theorem State.busWrite_tlb (pa : Word) (n : Nat) (v : Dword) (m : Memory) : (s.busWrite pa n v m).tlb = s.tlb := by unfold State.busWrite; split <;> rfl
@[simp] theorem State.busWrite_busMap (pa : Word) (n : Nat) (v : Dword) (m : Memory) : (s.busWrite pa n v m).busMap = s.busMap := by unfold State.busWrite; split <;> rfl
@[simp] theorem State.busWrite_extInt (pa : Word) (n : Nat) (v : Dword) (m : Memory) : (s.busWrite pa n v m).extInt = s.extInt := by unfold State.busWrite; split <;> rfl
@[simp] theorem State.busWrite_extIntNext (pa : Word) (n : Nat) (v : Dword) (m : Memory) : (s.busWrite pa n v m).extIntNext = s.extIntNext := by unfold State.busWrite; split <;> rfl
@[simp] theorem State.busWrite_countInc (pa : Word) (n : Nat) (v : Dword) (m : Memory) : (s.busWrite pa n v m).countInc = s.countInc := by unfold State.busWrite; split <;> rfl
@[simp] theorem State.busWrite_randomPolicy (pa : Word) (n : Nat) (v : Dword) (m : Memory) : (s.busWrite pa n v m).randomPolicy = s.randomPolicy := by unfold State.busWrite; split <;> rfl
@[simp] theorem State.busWrite_freeIx (pa : Word) (n : Nat) (v : Dword) (m : Memory) : (s.busWrite pa n v m).freeIx = s.freeIx := by unfold State.busWrite; split <;> rfl

/-! ### busWrite8 -/

@[simp] theorem State.busWrite8_gpr (pa : Word) (v : Byte) : (s.busWrite8 pa v).gpr = s.gpr := s.busWrite_gpr ..
@[simp] theorem State.busWrite8_hi (pa : Word) (v : Byte) : (s.busWrite8 pa v).hi = s.hi := s.busWrite_hi ..
@[simp] theorem State.busWrite8_lo (pa : Word) (v : Byte) : (s.busWrite8 pa v).lo = s.lo := s.busWrite_lo ..
@[simp] theorem State.busWrite8_pc (pa : Word) (v : Byte) : (s.busWrite8 pa v).pc = s.pc := s.busWrite_pc ..
@[simp] theorem State.busWrite8_nextPc (pa : Word) (v : Byte) : (s.busWrite8 pa v).nextPc = s.nextPc := s.busWrite_nextPc ..
@[simp] theorem State.busWrite8_prevPc (pa : Word) (v : Byte) : (s.busWrite8 pa v).prevPc = s.prevPc := s.busWrite_prevPc ..
@[simp] theorem State.busWrite8_branchPending (pa : Word) (v : Byte) : (s.busWrite8 pa v).branchPending = s.branchPending := s.busWrite_branchPending ..
@[simp] theorem State.busWrite8_inDelaySlot (pa : Word) (v : Byte) : (s.busWrite8 pa v).inDelaySlot = s.inDelaySlot := s.busWrite_inDelaySlot ..
@[simp] theorem State.busWrite8_llbit (pa : Word) (v : Byte) : (s.busWrite8 pa v).llbit = s.llbit := s.busWrite_llbit ..
@[simp] theorem State.busWrite8_fpr (pa : Word) (v : Byte) : (s.busWrite8 pa v).fpr = s.fpr := s.busWrite_fpr ..
@[simp] theorem State.busWrite8_fcr0 (pa : Word) (v : Byte) : (s.busWrite8 pa v).fcr0 = s.fcr0 := s.busWrite_fcr0 ..
@[simp] theorem State.busWrite8_fcr31 (pa : Word) (v : Byte) : (s.busWrite8 pa v).fcr31 = s.fcr31 := s.busWrite_fcr31 ..
@[simp] theorem State.busWrite8_cp0 (pa : Word) (v : Byte) : (s.busWrite8 pa v).cp0 = s.cp0 := s.busWrite_cp0 ..
@[simp] theorem State.busWrite8_tlb (pa : Word) (v : Byte) : (s.busWrite8 pa v).tlb = s.tlb := s.busWrite_tlb ..
@[simp] theorem State.busWrite8_busMap (pa : Word) (v : Byte) : (s.busWrite8 pa v).busMap = s.busMap := s.busWrite_busMap ..
@[simp] theorem State.busWrite8_extInt (pa : Word) (v : Byte) : (s.busWrite8 pa v).extInt = s.extInt := s.busWrite_extInt ..
@[simp] theorem State.busWrite8_extIntNext (pa : Word) (v : Byte) : (s.busWrite8 pa v).extIntNext = s.extIntNext := s.busWrite_extIntNext ..
@[simp] theorem State.busWrite8_countInc (pa : Word) (v : Byte) : (s.busWrite8 pa v).countInc = s.countInc := s.busWrite_countInc ..
@[simp] theorem State.busWrite8_randomPolicy (pa : Word) (v : Byte) : (s.busWrite8 pa v).randomPolicy = s.randomPolicy := s.busWrite_randomPolicy ..
@[simp] theorem State.busWrite8_freeIx (pa : Word) (v : Byte) : (s.busWrite8 pa v).freeIx = s.freeIx := s.busWrite_freeIx ..

/-! ### busWrite16 -/

@[simp] theorem State.busWrite16_gpr (pa : Word) (v : Half) : (s.busWrite16 pa v).gpr = s.gpr := s.busWrite_gpr ..
@[simp] theorem State.busWrite16_hi (pa : Word) (v : Half) : (s.busWrite16 pa v).hi = s.hi := s.busWrite_hi ..
@[simp] theorem State.busWrite16_lo (pa : Word) (v : Half) : (s.busWrite16 pa v).lo = s.lo := s.busWrite_lo ..
@[simp] theorem State.busWrite16_pc (pa : Word) (v : Half) : (s.busWrite16 pa v).pc = s.pc := s.busWrite_pc ..
@[simp] theorem State.busWrite16_nextPc (pa : Word) (v : Half) : (s.busWrite16 pa v).nextPc = s.nextPc := s.busWrite_nextPc ..
@[simp] theorem State.busWrite16_prevPc (pa : Word) (v : Half) : (s.busWrite16 pa v).prevPc = s.prevPc := s.busWrite_prevPc ..
@[simp] theorem State.busWrite16_branchPending (pa : Word) (v : Half) : (s.busWrite16 pa v).branchPending = s.branchPending := s.busWrite_branchPending ..
@[simp] theorem State.busWrite16_inDelaySlot (pa : Word) (v : Half) : (s.busWrite16 pa v).inDelaySlot = s.inDelaySlot := s.busWrite_inDelaySlot ..
@[simp] theorem State.busWrite16_llbit (pa : Word) (v : Half) : (s.busWrite16 pa v).llbit = s.llbit := s.busWrite_llbit ..
@[simp] theorem State.busWrite16_fpr (pa : Word) (v : Half) : (s.busWrite16 pa v).fpr = s.fpr := s.busWrite_fpr ..
@[simp] theorem State.busWrite16_fcr0 (pa : Word) (v : Half) : (s.busWrite16 pa v).fcr0 = s.fcr0 := s.busWrite_fcr0 ..
@[simp] theorem State.busWrite16_fcr31 (pa : Word) (v : Half) : (s.busWrite16 pa v).fcr31 = s.fcr31 := s.busWrite_fcr31 ..
@[simp] theorem State.busWrite16_cp0 (pa : Word) (v : Half) : (s.busWrite16 pa v).cp0 = s.cp0 := s.busWrite_cp0 ..
@[simp] theorem State.busWrite16_tlb (pa : Word) (v : Half) : (s.busWrite16 pa v).tlb = s.tlb := s.busWrite_tlb ..
@[simp] theorem State.busWrite16_busMap (pa : Word) (v : Half) : (s.busWrite16 pa v).busMap = s.busMap := s.busWrite_busMap ..
@[simp] theorem State.busWrite16_extInt (pa : Word) (v : Half) : (s.busWrite16 pa v).extInt = s.extInt := s.busWrite_extInt ..
@[simp] theorem State.busWrite16_extIntNext (pa : Word) (v : Half) : (s.busWrite16 pa v).extIntNext = s.extIntNext := s.busWrite_extIntNext ..
@[simp] theorem State.busWrite16_countInc (pa : Word) (v : Half) : (s.busWrite16 pa v).countInc = s.countInc := s.busWrite_countInc ..
@[simp] theorem State.busWrite16_randomPolicy (pa : Word) (v : Half) : (s.busWrite16 pa v).randomPolicy = s.randomPolicy := s.busWrite_randomPolicy ..
@[simp] theorem State.busWrite16_freeIx (pa : Word) (v : Half) : (s.busWrite16 pa v).freeIx = s.freeIx := s.busWrite_freeIx ..

/-! ### busWrite32 -/

@[simp] theorem State.busWrite32_gpr (pa : Word) (v : Word) : (s.busWrite32 pa v).gpr = s.gpr := s.busWrite_gpr ..
@[simp] theorem State.busWrite32_hi (pa : Word) (v : Word) : (s.busWrite32 pa v).hi = s.hi := s.busWrite_hi ..
@[simp] theorem State.busWrite32_lo (pa : Word) (v : Word) : (s.busWrite32 pa v).lo = s.lo := s.busWrite_lo ..
@[simp] theorem State.busWrite32_pc (pa : Word) (v : Word) : (s.busWrite32 pa v).pc = s.pc := s.busWrite_pc ..
@[simp] theorem State.busWrite32_nextPc (pa : Word) (v : Word) : (s.busWrite32 pa v).nextPc = s.nextPc := s.busWrite_nextPc ..
@[simp] theorem State.busWrite32_prevPc (pa : Word) (v : Word) : (s.busWrite32 pa v).prevPc = s.prevPc := s.busWrite_prevPc ..
@[simp] theorem State.busWrite32_branchPending (pa : Word) (v : Word) : (s.busWrite32 pa v).branchPending = s.branchPending := s.busWrite_branchPending ..
@[simp] theorem State.busWrite32_inDelaySlot (pa : Word) (v : Word) : (s.busWrite32 pa v).inDelaySlot = s.inDelaySlot := s.busWrite_inDelaySlot ..
@[simp] theorem State.busWrite32_llbit (pa : Word) (v : Word) : (s.busWrite32 pa v).llbit = s.llbit := s.busWrite_llbit ..
@[simp] theorem State.busWrite32_fpr (pa : Word) (v : Word) : (s.busWrite32 pa v).fpr = s.fpr := s.busWrite_fpr ..
@[simp] theorem State.busWrite32_fcr0 (pa : Word) (v : Word) : (s.busWrite32 pa v).fcr0 = s.fcr0 := s.busWrite_fcr0 ..
@[simp] theorem State.busWrite32_fcr31 (pa : Word) (v : Word) : (s.busWrite32 pa v).fcr31 = s.fcr31 := s.busWrite_fcr31 ..
@[simp] theorem State.busWrite32_cp0 (pa : Word) (v : Word) : (s.busWrite32 pa v).cp0 = s.cp0 := s.busWrite_cp0 ..
@[simp] theorem State.busWrite32_tlb (pa : Word) (v : Word) : (s.busWrite32 pa v).tlb = s.tlb := s.busWrite_tlb ..
@[simp] theorem State.busWrite32_busMap (pa : Word) (v : Word) : (s.busWrite32 pa v).busMap = s.busMap := s.busWrite_busMap ..
@[simp] theorem State.busWrite32_extInt (pa : Word) (v : Word) : (s.busWrite32 pa v).extInt = s.extInt := s.busWrite_extInt ..
@[simp] theorem State.busWrite32_extIntNext (pa : Word) (v : Word) : (s.busWrite32 pa v).extIntNext = s.extIntNext := s.busWrite_extIntNext ..
@[simp] theorem State.busWrite32_countInc (pa : Word) (v : Word) : (s.busWrite32 pa v).countInc = s.countInc := s.busWrite_countInc ..
@[simp] theorem State.busWrite32_randomPolicy (pa : Word) (v : Word) : (s.busWrite32 pa v).randomPolicy = s.randomPolicy := s.busWrite_randomPolicy ..
@[simp] theorem State.busWrite32_freeIx (pa : Word) (v : Word) : (s.busWrite32 pa v).freeIx = s.freeIx := s.busWrite_freeIx ..

/-! ### busWrite64 -/

@[simp] theorem State.busWrite64_gpr (pa : Word) (v : Dword) : (s.busWrite64 pa v).gpr = s.gpr := s.busWrite_gpr ..
@[simp] theorem State.busWrite64_hi (pa : Word) (v : Dword) : (s.busWrite64 pa v).hi = s.hi := s.busWrite_hi ..
@[simp] theorem State.busWrite64_lo (pa : Word) (v : Dword) : (s.busWrite64 pa v).lo = s.lo := s.busWrite_lo ..
@[simp] theorem State.busWrite64_pc (pa : Word) (v : Dword) : (s.busWrite64 pa v).pc = s.pc := s.busWrite_pc ..
@[simp] theorem State.busWrite64_nextPc (pa : Word) (v : Dword) : (s.busWrite64 pa v).nextPc = s.nextPc := s.busWrite_nextPc ..
@[simp] theorem State.busWrite64_prevPc (pa : Word) (v : Dword) : (s.busWrite64 pa v).prevPc = s.prevPc := s.busWrite_prevPc ..
@[simp] theorem State.busWrite64_branchPending (pa : Word) (v : Dword) : (s.busWrite64 pa v).branchPending = s.branchPending := s.busWrite_branchPending ..
@[simp] theorem State.busWrite64_inDelaySlot (pa : Word) (v : Dword) : (s.busWrite64 pa v).inDelaySlot = s.inDelaySlot := s.busWrite_inDelaySlot ..
@[simp] theorem State.busWrite64_llbit (pa : Word) (v : Dword) : (s.busWrite64 pa v).llbit = s.llbit := s.busWrite_llbit ..
@[simp] theorem State.busWrite64_fpr (pa : Word) (v : Dword) : (s.busWrite64 pa v).fpr = s.fpr := s.busWrite_fpr ..
@[simp] theorem State.busWrite64_fcr0 (pa : Word) (v : Dword) : (s.busWrite64 pa v).fcr0 = s.fcr0 := s.busWrite_fcr0 ..
@[simp] theorem State.busWrite64_fcr31 (pa : Word) (v : Dword) : (s.busWrite64 pa v).fcr31 = s.fcr31 := s.busWrite_fcr31 ..
@[simp] theorem State.busWrite64_cp0 (pa : Word) (v : Dword) : (s.busWrite64 pa v).cp0 = s.cp0 := s.busWrite_cp0 ..
@[simp] theorem State.busWrite64_tlb (pa : Word) (v : Dword) : (s.busWrite64 pa v).tlb = s.tlb := s.busWrite_tlb ..
@[simp] theorem State.busWrite64_busMap (pa : Word) (v : Dword) : (s.busWrite64 pa v).busMap = s.busMap := s.busWrite_busMap ..
@[simp] theorem State.busWrite64_extInt (pa : Word) (v : Dword) : (s.busWrite64 pa v).extInt = s.extInt := s.busWrite_extInt ..
@[simp] theorem State.busWrite64_extIntNext (pa : Word) (v : Dword) : (s.busWrite64 pa v).extIntNext = s.extIntNext := s.busWrite_extIntNext ..
@[simp] theorem State.busWrite64_countInc (pa : Word) (v : Dword) : (s.busWrite64 pa v).countInc = s.countInc := s.busWrite_countInc ..
@[simp] theorem State.busWrite64_randomPolicy (pa : Word) (v : Dword) : (s.busWrite64 pa v).randomPolicy = s.randomPolicy := s.busWrite_randomPolicy ..
@[simp] theorem State.busWrite64_freeIx (pa : Word) (v : Dword) : (s.busWrite64 pa v).freeIx = s.freeIx := s.busWrite_freeIx ..

/-! ### setCp0 -/

@[simp] theorem State.setCp0_gpr (c : Cp0) : (s.setCp0 c).gpr = s.gpr := rfl
@[simp] theorem State.setCp0_hi (c : Cp0) : (s.setCp0 c).hi = s.hi := rfl
@[simp] theorem State.setCp0_lo (c : Cp0) : (s.setCp0 c).lo = s.lo := rfl
@[simp] theorem State.setCp0_pc (c : Cp0) : (s.setCp0 c).pc = s.pc := rfl
@[simp] theorem State.setCp0_nextPc (c : Cp0) : (s.setCp0 c).nextPc = s.nextPc := rfl
@[simp] theorem State.setCp0_prevPc (c : Cp0) : (s.setCp0 c).prevPc = s.prevPc := rfl
@[simp] theorem State.setCp0_branchPending (c : Cp0) : (s.setCp0 c).branchPending = s.branchPending := rfl
@[simp] theorem State.setCp0_inDelaySlot (c : Cp0) : (s.setCp0 c).inDelaySlot = s.inDelaySlot := rfl
@[simp] theorem State.setCp0_llbit (c : Cp0) : (s.setCp0 c).llbit = s.llbit := rfl
@[simp] theorem State.setCp0_fpr (c : Cp0) : (s.setCp0 c).fpr = s.fpr := rfl
@[simp] theorem State.setCp0_fcr0 (c : Cp0) : (s.setCp0 c).fcr0 = s.fcr0 := rfl
@[simp] theorem State.setCp0_fcr31 (c : Cp0) : (s.setCp0 c).fcr31 = s.fcr31 := rfl
@[simp] theorem State.setCp0_cp0 (c : Cp0) : (s.setCp0 c).cp0 = c := rfl
@[simp] theorem State.setCp0_tlb (c : Cp0) : (s.setCp0 c).tlb = s.tlb := rfl
@[simp] theorem State.setCp0_mem (c : Cp0) : (s.setCp0 c).mem = s.mem := rfl
@[simp] theorem State.setCp0_busMap (c : Cp0) : (s.setCp0 c).busMap = s.busMap := rfl
@[simp] theorem State.setCp0_busTrace (c : Cp0) : (s.setCp0 c).busTrace = s.busTrace := rfl
@[simp] theorem State.setCp0_extInt (c : Cp0) : (s.setCp0 c).extInt = s.extInt := rfl
@[simp] theorem State.setCp0_extIntNext (c : Cp0) : (s.setCp0 c).extIntNext = s.extIntNext := rfl
@[simp] theorem State.setCp0_countInc (c : Cp0) : (s.setCp0 c).countInc = s.countInc := rfl
@[simp] theorem State.setCp0_randomPolicy (c : Cp0) : (s.setCp0 c).randomPolicy = s.randomPolicy := rfl
@[simp] theorem State.setCp0_freeIx (c : Cp0) : (s.setCp0 c).freeIx = s.freeIx := rfl

/-! ### setFcr31 -/

@[simp] theorem State.setFcr31_gpr (f : Word) : (s.setFcr31 f).gpr = s.gpr := rfl
@[simp] theorem State.setFcr31_hi (f : Word) : (s.setFcr31 f).hi = s.hi := rfl
@[simp] theorem State.setFcr31_lo (f : Word) : (s.setFcr31 f).lo = s.lo := rfl
@[simp] theorem State.setFcr31_pc (f : Word) : (s.setFcr31 f).pc = s.pc := rfl
@[simp] theorem State.setFcr31_nextPc (f : Word) : (s.setFcr31 f).nextPc = s.nextPc := rfl
@[simp] theorem State.setFcr31_prevPc (f : Word) : (s.setFcr31 f).prevPc = s.prevPc := rfl
@[simp] theorem State.setFcr31_branchPending (f : Word) : (s.setFcr31 f).branchPending = s.branchPending := rfl
@[simp] theorem State.setFcr31_inDelaySlot (f : Word) : (s.setFcr31 f).inDelaySlot = s.inDelaySlot := rfl
@[simp] theorem State.setFcr31_llbit (f : Word) : (s.setFcr31 f).llbit = s.llbit := rfl
@[simp] theorem State.setFcr31_fpr (f : Word) : (s.setFcr31 f).fpr = s.fpr := rfl
@[simp] theorem State.setFcr31_fcr0 (f : Word) : (s.setFcr31 f).fcr0 = s.fcr0 := rfl
@[simp] theorem State.setFcr31_fcr31 (f : Word) : (s.setFcr31 f).fcr31 = f := rfl
@[simp] theorem State.setFcr31_cp0 (f : Word) : (s.setFcr31 f).cp0 = s.cp0 := rfl
@[simp] theorem State.setFcr31_tlb (f : Word) : (s.setFcr31 f).tlb = s.tlb := rfl
@[simp] theorem State.setFcr31_mem (f : Word) : (s.setFcr31 f).mem = s.mem := rfl
@[simp] theorem State.setFcr31_busMap (f : Word) : (s.setFcr31 f).busMap = s.busMap := rfl
@[simp] theorem State.setFcr31_busTrace (f : Word) : (s.setFcr31 f).busTrace = s.busTrace := rfl
@[simp] theorem State.setFcr31_extInt (f : Word) : (s.setFcr31 f).extInt = s.extInt := rfl
@[simp] theorem State.setFcr31_extIntNext (f : Word) : (s.setFcr31 f).extIntNext = s.extIntNext := rfl
@[simp] theorem State.setFcr31_countInc (f : Word) : (s.setFcr31 f).countInc = s.countInc := rfl
@[simp] theorem State.setFcr31_randomPolicy (f : Word) : (s.setFcr31 f).randomPolicy = s.randomPolicy := rfl
@[simp] theorem State.setFcr31_freeIx (f : Word) : (s.setFcr31 f).freeIx = s.freeIx := rfl

/-! ### setFpr -/

@[simp] theorem State.setFpr_gpr (i : BitVec 5) (v : Dword) : (s.setFpr i v).gpr = s.gpr := rfl
@[simp] theorem State.setFpr_hi (i : BitVec 5) (v : Dword) : (s.setFpr i v).hi = s.hi := rfl
@[simp] theorem State.setFpr_lo (i : BitVec 5) (v : Dword) : (s.setFpr i v).lo = s.lo := rfl
@[simp] theorem State.setFpr_pc (i : BitVec 5) (v : Dword) : (s.setFpr i v).pc = s.pc := rfl
@[simp] theorem State.setFpr_nextPc (i : BitVec 5) (v : Dword) : (s.setFpr i v).nextPc = s.nextPc := rfl
@[simp] theorem State.setFpr_prevPc (i : BitVec 5) (v : Dword) : (s.setFpr i v).prevPc = s.prevPc := rfl
@[simp] theorem State.setFpr_branchPending (i : BitVec 5) (v : Dword) : (s.setFpr i v).branchPending = s.branchPending := rfl
@[simp] theorem State.setFpr_inDelaySlot (i : BitVec 5) (v : Dword) : (s.setFpr i v).inDelaySlot = s.inDelaySlot := rfl
@[simp] theorem State.setFpr_llbit (i : BitVec 5) (v : Dword) : (s.setFpr i v).llbit = s.llbit := rfl
@[simp] theorem State.setFpr_fpr (i : BitVec 5) (v : Dword) : (s.setFpr i v).fpr = s.fpr.set i.toNat v i.isLt := rfl
@[simp] theorem State.setFpr_fcr0 (i : BitVec 5) (v : Dword) : (s.setFpr i v).fcr0 = s.fcr0 := rfl
@[simp] theorem State.setFpr_fcr31 (i : BitVec 5) (v : Dword) : (s.setFpr i v).fcr31 = s.fcr31 := rfl
@[simp] theorem State.setFpr_cp0 (i : BitVec 5) (v : Dword) : (s.setFpr i v).cp0 = s.cp0 := rfl
@[simp] theorem State.setFpr_tlb (i : BitVec 5) (v : Dword) : (s.setFpr i v).tlb = s.tlb := rfl
@[simp] theorem State.setFpr_mem (i : BitVec 5) (v : Dword) : (s.setFpr i v).mem = s.mem := rfl
@[simp] theorem State.setFpr_busMap (i : BitVec 5) (v : Dword) : (s.setFpr i v).busMap = s.busMap := rfl
@[simp] theorem State.setFpr_busTrace (i : BitVec 5) (v : Dword) : (s.setFpr i v).busTrace = s.busTrace := rfl
@[simp] theorem State.setFpr_extInt (i : BitVec 5) (v : Dword) : (s.setFpr i v).extInt = s.extInt := rfl
@[simp] theorem State.setFpr_extIntNext (i : BitVec 5) (v : Dword) : (s.setFpr i v).extIntNext = s.extIntNext := rfl
@[simp] theorem State.setFpr_countInc (i : BitVec 5) (v : Dword) : (s.setFpr i v).countInc = s.countInc := rfl
@[simp] theorem State.setFpr_randomPolicy (i : BitVec 5) (v : Dword) : (s.setFpr i v).randomPolicy = s.randomPolicy := rfl
@[simp] theorem State.setFpr_freeIx (i : BitVec 5) (v : Dword) : (s.setFpr i v).freeIx = s.freeIx := rfl

/-! ### setTlb -/

@[simp] theorem State.setTlb_gpr (i : Fin 32) (e : TlbEntry) : (s.setTlb i e).gpr = s.gpr := rfl
@[simp] theorem State.setTlb_hi (i : Fin 32) (e : TlbEntry) : (s.setTlb i e).hi = s.hi := rfl
@[simp] theorem State.setTlb_lo (i : Fin 32) (e : TlbEntry) : (s.setTlb i e).lo = s.lo := rfl
@[simp] theorem State.setTlb_pc (i : Fin 32) (e : TlbEntry) : (s.setTlb i e).pc = s.pc := rfl
@[simp] theorem State.setTlb_nextPc (i : Fin 32) (e : TlbEntry) : (s.setTlb i e).nextPc = s.nextPc := rfl
@[simp] theorem State.setTlb_prevPc (i : Fin 32) (e : TlbEntry) : (s.setTlb i e).prevPc = s.prevPc := rfl
@[simp] theorem State.setTlb_branchPending (i : Fin 32) (e : TlbEntry) : (s.setTlb i e).branchPending = s.branchPending := rfl
@[simp] theorem State.setTlb_inDelaySlot (i : Fin 32) (e : TlbEntry) : (s.setTlb i e).inDelaySlot = s.inDelaySlot := rfl
@[simp] theorem State.setTlb_llbit (i : Fin 32) (e : TlbEntry) : (s.setTlb i e).llbit = s.llbit := rfl
@[simp] theorem State.setTlb_fpr (i : Fin 32) (e : TlbEntry) : (s.setTlb i e).fpr = s.fpr := rfl
@[simp] theorem State.setTlb_fcr0 (i : Fin 32) (e : TlbEntry) : (s.setTlb i e).fcr0 = s.fcr0 := rfl
@[simp] theorem State.setTlb_fcr31 (i : Fin 32) (e : TlbEntry) : (s.setTlb i e).fcr31 = s.fcr31 := rfl
@[simp] theorem State.setTlb_cp0 (i : Fin 32) (e : TlbEntry) : (s.setTlb i e).cp0 = s.cp0 := rfl
@[simp] theorem State.setTlb_tlb (i : Fin 32) (e : TlbEntry) : (s.setTlb i e).tlb = s.tlb.set i.val e i.isLt := rfl
@[simp] theorem State.setTlb_mem (i : Fin 32) (e : TlbEntry) : (s.setTlb i e).mem = s.mem := rfl
@[simp] theorem State.setTlb_busMap (i : Fin 32) (e : TlbEntry) : (s.setTlb i e).busMap = s.busMap := rfl
@[simp] theorem State.setTlb_busTrace (i : Fin 32) (e : TlbEntry) : (s.setTlb i e).busTrace = s.busTrace := rfl
@[simp] theorem State.setTlb_extInt (i : Fin 32) (e : TlbEntry) : (s.setTlb i e).extInt = s.extInt := rfl
@[simp] theorem State.setTlb_extIntNext (i : Fin 32) (e : TlbEntry) : (s.setTlb i e).extIntNext = s.extIntNext := rfl
@[simp] theorem State.setTlb_countInc (i : Fin 32) (e : TlbEntry) : (s.setTlb i e).countInc = s.countInc := rfl
@[simp] theorem State.setTlb_randomPolicy (i : Fin 32) (e : TlbEntry) : (s.setTlb i e).randomPolicy = s.randomPolicy := rfl
@[simp] theorem State.setTlb_freeIx (i : Fin 32) (e : TlbEntry) : (s.setTlb i e).freeIx = s.freeIx := rfl

/-! ### setReservation -/

@[simp] theorem State.setReservation_gpr (pa : Word) : (s.setReservation pa).gpr = s.gpr := rfl
@[simp] theorem State.setReservation_hi (pa : Word) : (s.setReservation pa).hi = s.hi := rfl
@[simp] theorem State.setReservation_lo (pa : Word) : (s.setReservation pa).lo = s.lo := rfl
@[simp] theorem State.setReservation_pc (pa : Word) : (s.setReservation pa).pc = s.pc := rfl
@[simp] theorem State.setReservation_nextPc (pa : Word) : (s.setReservation pa).nextPc = s.nextPc := rfl
@[simp] theorem State.setReservation_prevPc (pa : Word) : (s.setReservation pa).prevPc = s.prevPc := rfl
@[simp] theorem State.setReservation_branchPending (pa : Word) : (s.setReservation pa).branchPending = s.branchPending := rfl
@[simp] theorem State.setReservation_inDelaySlot (pa : Word) : (s.setReservation pa).inDelaySlot = s.inDelaySlot := rfl
@[simp] theorem State.setReservation_llbit (pa : Word) : (s.setReservation pa).llbit = true := rfl
@[simp] theorem State.setReservation_fpr (pa : Word) : (s.setReservation pa).fpr = s.fpr := rfl
@[simp] theorem State.setReservation_fcr0 (pa : Word) : (s.setReservation pa).fcr0 = s.fcr0 := rfl
@[simp] theorem State.setReservation_fcr31 (pa : Word) : (s.setReservation pa).fcr31 = s.fcr31 := rfl
@[simp] theorem State.setReservation_cp0 (pa : Word) : (s.setReservation pa).cp0 = { s.cp0 with llAddr := pa >>> 4 } := rfl
@[simp] theorem State.setReservation_tlb (pa : Word) : (s.setReservation pa).tlb = s.tlb := rfl
@[simp] theorem State.setReservation_mem (pa : Word) : (s.setReservation pa).mem = s.mem := rfl
@[simp] theorem State.setReservation_busMap (pa : Word) : (s.setReservation pa).busMap = s.busMap := rfl
@[simp] theorem State.setReservation_busTrace (pa : Word) : (s.setReservation pa).busTrace = s.busTrace := rfl
@[simp] theorem State.setReservation_extInt (pa : Word) : (s.setReservation pa).extInt = s.extInt := rfl
@[simp] theorem State.setReservation_extIntNext (pa : Word) : (s.setReservation pa).extIntNext = s.extIntNext := rfl
@[simp] theorem State.setReservation_countInc (pa : Word) : (s.setReservation pa).countInc = s.countInc := rfl
@[simp] theorem State.setReservation_randomPolicy (pa : Word) : (s.setReservation pa).randomPolicy = s.randomPolicy := rfl
@[simp] theorem State.setReservation_freeIx (pa : Word) : (s.setReservation pa).freeIx = s.freeIx := rfl

/-! ### branch -/

@[simp] theorem State.branch_gpr (c : Bool) (t : Dword) : (s.branch c t).gpr = s.gpr := rfl
@[simp] theorem State.branch_hi (c : Bool) (t : Dword) : (s.branch c t).hi = s.hi := rfl
@[simp] theorem State.branch_lo (c : Bool) (t : Dword) : (s.branch c t).lo = s.lo := rfl
@[simp] theorem State.branch_pc (c : Bool) (t : Dword) : (s.branch c t).pc = s.pc := rfl
@[simp] theorem State.branch_nextPc (c : Bool) (t : Dword) : (s.branch c t).nextPc = if c then t else s.nextPc := rfl
@[simp] theorem State.branch_prevPc (c : Bool) (t : Dword) : (s.branch c t).prevPc = s.prevPc := rfl
@[simp] theorem State.branch_branchPending (c : Bool) (t : Dword) : (s.branch c t).branchPending = true := rfl
@[simp] theorem State.branch_inDelaySlot (c : Bool) (t : Dword) : (s.branch c t).inDelaySlot = s.inDelaySlot := rfl
@[simp] theorem State.branch_llbit (c : Bool) (t : Dword) : (s.branch c t).llbit = s.llbit := rfl
@[simp] theorem State.branch_fpr (c : Bool) (t : Dword) : (s.branch c t).fpr = s.fpr := rfl
@[simp] theorem State.branch_fcr0 (c : Bool) (t : Dword) : (s.branch c t).fcr0 = s.fcr0 := rfl
@[simp] theorem State.branch_fcr31 (c : Bool) (t : Dword) : (s.branch c t).fcr31 = s.fcr31 := rfl
@[simp] theorem State.branch_cp0 (c : Bool) (t : Dword) : (s.branch c t).cp0 = s.cp0 := rfl
@[simp] theorem State.branch_tlb (c : Bool) (t : Dword) : (s.branch c t).tlb = s.tlb := rfl
@[simp] theorem State.branch_mem (c : Bool) (t : Dword) : (s.branch c t).mem = s.mem := rfl
@[simp] theorem State.branch_busMap (c : Bool) (t : Dword) : (s.branch c t).busMap = s.busMap := rfl
@[simp] theorem State.branch_busTrace (c : Bool) (t : Dword) : (s.branch c t).busTrace = s.busTrace := rfl
@[simp] theorem State.branch_extInt (c : Bool) (t : Dword) : (s.branch c t).extInt = s.extInt := rfl
@[simp] theorem State.branch_extIntNext (c : Bool) (t : Dword) : (s.branch c t).extIntNext = s.extIntNext := rfl
@[simp] theorem State.branch_countInc (c : Bool) (t : Dword) : (s.branch c t).countInc = s.countInc := rfl
@[simp] theorem State.branch_randomPolicy (c : Bool) (t : Dword) : (s.branch c t).randomPolicy = s.randomPolicy := rfl
@[simp] theorem State.branch_freeIx (c : Bool) (t : Dword) : (s.branch c t).freeIx = s.freeIx := rfl

/-! ### branchLikely -/

@[simp] theorem State.branchLikely_gpr (c : Bool) (t : Dword) : (s.branchLikely c t).gpr = s.gpr := by unfold State.branchLikely; split <;> rfl
@[simp] theorem State.branchLikely_hi (c : Bool) (t : Dword) : (s.branchLikely c t).hi = s.hi := by unfold State.branchLikely; split <;> rfl
@[simp] theorem State.branchLikely_lo (c : Bool) (t : Dword) : (s.branchLikely c t).lo = s.lo := by unfold State.branchLikely; split <;> rfl
@[simp] theorem State.branchLikely_prevPc (c : Bool) (t : Dword) : (s.branchLikely c t).prevPc = s.prevPc := by unfold State.branchLikely; split <;> rfl
@[simp] theorem State.branchLikely_inDelaySlot (c : Bool) (t : Dword) : (s.branchLikely c t).inDelaySlot = s.inDelaySlot := by unfold State.branchLikely; split <;> rfl
@[simp] theorem State.branchLikely_llbit (c : Bool) (t : Dword) : (s.branchLikely c t).llbit = s.llbit := by unfold State.branchLikely; split <;> rfl
@[simp] theorem State.branchLikely_fpr (c : Bool) (t : Dword) : (s.branchLikely c t).fpr = s.fpr := by unfold State.branchLikely; split <;> rfl
@[simp] theorem State.branchLikely_fcr0 (c : Bool) (t : Dword) : (s.branchLikely c t).fcr0 = s.fcr0 := by unfold State.branchLikely; split <;> rfl
@[simp] theorem State.branchLikely_fcr31 (c : Bool) (t : Dword) : (s.branchLikely c t).fcr31 = s.fcr31 := by unfold State.branchLikely; split <;> rfl
@[simp] theorem State.branchLikely_cp0 (c : Bool) (t : Dword) : (s.branchLikely c t).cp0 = s.cp0 := by unfold State.branchLikely; split <;> rfl
@[simp] theorem State.branchLikely_tlb (c : Bool) (t : Dword) : (s.branchLikely c t).tlb = s.tlb := by unfold State.branchLikely; split <;> rfl
@[simp] theorem State.branchLikely_mem (c : Bool) (t : Dword) : (s.branchLikely c t).mem = s.mem := by unfold State.branchLikely; split <;> rfl
@[simp] theorem State.branchLikely_busMap (c : Bool) (t : Dword) : (s.branchLikely c t).busMap = s.busMap := by unfold State.branchLikely; split <;> rfl
@[simp] theorem State.branchLikely_busTrace (c : Bool) (t : Dword) : (s.branchLikely c t).busTrace = s.busTrace := by unfold State.branchLikely; split <;> rfl
@[simp] theorem State.branchLikely_extInt (c : Bool) (t : Dword) : (s.branchLikely c t).extInt = s.extInt := by unfold State.branchLikely; split <;> rfl
@[simp] theorem State.branchLikely_extIntNext (c : Bool) (t : Dword) : (s.branchLikely c t).extIntNext = s.extIntNext := by unfold State.branchLikely; split <;> rfl
@[simp] theorem State.branchLikely_countInc (c : Bool) (t : Dword) : (s.branchLikely c t).countInc = s.countInc := by unfold State.branchLikely; split <;> rfl
@[simp] theorem State.branchLikely_randomPolicy (c : Bool) (t : Dword) : (s.branchLikely c t).randomPolicy = s.randomPolicy := by unfold State.branchLikely; split <;> rfl
@[simp] theorem State.branchLikely_freeIx (c : Bool) (t : Dword) : (s.branchLikely c t).freeIx = s.freeIx := by unfold State.branchLikely; split <;> rfl

/-! ### recordFaultAddress -/

@[simp] theorem State.recordFaultAddress_gpr (va : Dword) : (s.recordFaultAddress va).gpr = s.gpr := rfl
@[simp] theorem State.recordFaultAddress_hi (va : Dword) : (s.recordFaultAddress va).hi = s.hi := rfl
@[simp] theorem State.recordFaultAddress_lo (va : Dword) : (s.recordFaultAddress va).lo = s.lo := rfl
@[simp] theorem State.recordFaultAddress_pc (va : Dword) : (s.recordFaultAddress va).pc = s.pc := rfl
@[simp] theorem State.recordFaultAddress_nextPc (va : Dword) : (s.recordFaultAddress va).nextPc = s.nextPc := rfl
@[simp] theorem State.recordFaultAddress_prevPc (va : Dword) : (s.recordFaultAddress va).prevPc = s.prevPc := rfl
@[simp] theorem State.recordFaultAddress_branchPending (va : Dword) : (s.recordFaultAddress va).branchPending = s.branchPending := rfl
@[simp] theorem State.recordFaultAddress_inDelaySlot (va : Dword) : (s.recordFaultAddress va).inDelaySlot = s.inDelaySlot := rfl
@[simp] theorem State.recordFaultAddress_llbit (va : Dword) : (s.recordFaultAddress va).llbit = s.llbit := rfl
@[simp] theorem State.recordFaultAddress_fpr (va : Dword) : (s.recordFaultAddress va).fpr = s.fpr := rfl
@[simp] theorem State.recordFaultAddress_fcr0 (va : Dword) : (s.recordFaultAddress va).fcr0 = s.fcr0 := rfl
@[simp] theorem State.recordFaultAddress_fcr31 (va : Dword) : (s.recordFaultAddress va).fcr31 = s.fcr31 := rfl
@[simp] theorem State.recordFaultAddress_tlb (va : Dword) : (s.recordFaultAddress va).tlb = s.tlb := rfl
@[simp] theorem State.recordFaultAddress_mem (va : Dword) : (s.recordFaultAddress va).mem = s.mem := rfl
@[simp] theorem State.recordFaultAddress_busMap (va : Dword) : (s.recordFaultAddress va).busMap = s.busMap := rfl
@[simp] theorem State.recordFaultAddress_busTrace (va : Dword) : (s.recordFaultAddress va).busTrace = s.busTrace := rfl
@[simp] theorem State.recordFaultAddress_extInt (va : Dword) : (s.recordFaultAddress va).extInt = s.extInt := rfl
@[simp] theorem State.recordFaultAddress_extIntNext (va : Dword) : (s.recordFaultAddress va).extIntNext = s.extIntNext := rfl
@[simp] theorem State.recordFaultAddress_countInc (va : Dword) : (s.recordFaultAddress va).countInc = s.countInc := rfl
@[simp] theorem State.recordFaultAddress_randomPolicy (va : Dword) : (s.recordFaultAddress va).randomPolicy = s.randomPolicy := rfl
@[simp] theorem State.recordFaultAddress_freeIx (va : Dword) : (s.recordFaultAddress va).freeIx = s.freeIx := rfl

/-! ### takeException -/

@[simp] theorem State.takeException_gpr (e : Exc) : (s.takeException e).gpr = s.gpr := rfl
@[simp] theorem State.takeException_hi (e : Exc) : (s.takeException e).hi = s.hi := rfl
@[simp] theorem State.takeException_lo (e : Exc) : (s.takeException e).lo = s.lo := rfl
@[simp] theorem State.takeException_pc (e : Exc) : (s.takeException e).pc = s.vector e := rfl
@[simp] theorem State.takeException_nextPc (e : Exc) : (s.takeException e).nextPc = s.vector e + 4#64 := rfl
@[simp] theorem State.takeException_prevPc (e : Exc) : (s.takeException e).prevPc = s.prevPc := rfl
@[simp] theorem State.takeException_branchPending (e : Exc) : (s.takeException e).branchPending = false := rfl
@[simp] theorem State.takeException_inDelaySlot (e : Exc) : (s.takeException e).inDelaySlot = false := rfl
@[simp] theorem State.takeException_llbit (e : Exc) : (s.takeException e).llbit = s.llbit := rfl
@[simp] theorem State.takeException_fpr (e : Exc) : (s.takeException e).fpr = s.fpr := rfl
@[simp] theorem State.takeException_fcr0 (e : Exc) : (s.takeException e).fcr0 = s.fcr0 := rfl
@[simp] theorem State.takeException_fcr31 (e : Exc) : (s.takeException e).fcr31 = s.fcr31 := rfl
@[simp] theorem State.takeException_tlb (e : Exc) : (s.takeException e).tlb = s.tlb := rfl
@[simp] theorem State.takeException_mem (e : Exc) : (s.takeException e).mem = s.mem := rfl
@[simp] theorem State.takeException_busMap (e : Exc) : (s.takeException e).busMap = s.busMap := rfl
@[simp] theorem State.takeException_busTrace (e : Exc) : (s.takeException e).busTrace = s.busTrace := rfl
@[simp] theorem State.takeException_extInt (e : Exc) : (s.takeException e).extInt = s.extInt := rfl
@[simp] theorem State.takeException_extIntNext (e : Exc) : (s.takeException e).extIntNext = s.extIntNext := rfl
@[simp] theorem State.takeException_countInc (e : Exc) : (s.takeException e).countInc = s.countInc := rfl
@[simp] theorem State.takeException_randomPolicy (e : Exc) : (s.takeException e).randomPolicy = s.randomPolicy := rfl
@[simp] theorem State.takeException_freeIx (e : Exc) : (s.takeException e).freeIx = s.freeIx := rfl

/-! ### returnFromException -/

@[simp] theorem State.returnFromException_gpr : (s.returnFromException).gpr = s.gpr := rfl
@[simp] theorem State.returnFromException_hi : (s.returnFromException).hi = s.hi := rfl
@[simp] theorem State.returnFromException_lo : (s.returnFromException).lo = s.lo := rfl
@[simp] theorem State.returnFromException_pc : (s.returnFromException).pc = if s.erl then s.cp0.errorEpc else s.cp0.epc := rfl
@[simp] theorem State.returnFromException_nextPc : (s.returnFromException).nextPc = (if s.erl then s.cp0.errorEpc else s.cp0.epc) + 4#64 := rfl
@[simp] theorem State.returnFromException_prevPc : (s.returnFromException).prevPc = s.prevPc := rfl
@[simp] theorem State.returnFromException_branchPending : (s.returnFromException).branchPending = false := rfl
@[simp] theorem State.returnFromException_inDelaySlot : (s.returnFromException).inDelaySlot = s.inDelaySlot := rfl
@[simp] theorem State.returnFromException_llbit : (s.returnFromException).llbit = false := rfl
@[simp] theorem State.returnFromException_fpr : (s.returnFromException).fpr = s.fpr := rfl
@[simp] theorem State.returnFromException_fcr0 : (s.returnFromException).fcr0 = s.fcr0 := rfl
@[simp] theorem State.returnFromException_fcr31 : (s.returnFromException).fcr31 = s.fcr31 := rfl
@[simp] theorem State.returnFromException_tlb : (s.returnFromException).tlb = s.tlb := rfl
@[simp] theorem State.returnFromException_mem : (s.returnFromException).mem = s.mem := rfl
@[simp] theorem State.returnFromException_busMap : (s.returnFromException).busMap = s.busMap := rfl
@[simp] theorem State.returnFromException_busTrace : (s.returnFromException).busTrace = s.busTrace := rfl
@[simp] theorem State.returnFromException_extInt : (s.returnFromException).extInt = s.extInt := rfl
@[simp] theorem State.returnFromException_extIntNext : (s.returnFromException).extIntNext = s.extIntNext := rfl
@[simp] theorem State.returnFromException_countInc : (s.returnFromException).countInc = s.countInc := rfl
@[simp] theorem State.returnFromException_randomPolicy : (s.returnFromException).randomPolicy = s.randomPolicy := rfl
@[simp] theorem State.returnFromException_freeIx : (s.returnFromException).freeIx = s.freeIx := rfl

/-! ### advanceTimer -/

@[simp] theorem State.advanceTimer_gpr : (s.advanceTimer).gpr = s.gpr := rfl
@[simp] theorem State.advanceTimer_hi : (s.advanceTimer).hi = s.hi := rfl
@[simp] theorem State.advanceTimer_lo : (s.advanceTimer).lo = s.lo := rfl
@[simp] theorem State.advanceTimer_pc : (s.advanceTimer).pc = s.pc := rfl
@[simp] theorem State.advanceTimer_nextPc : (s.advanceTimer).nextPc = s.nextPc := rfl
@[simp] theorem State.advanceTimer_prevPc : (s.advanceTimer).prevPc = s.prevPc := rfl
@[simp] theorem State.advanceTimer_branchPending : (s.advanceTimer).branchPending = s.branchPending := rfl
@[simp] theorem State.advanceTimer_inDelaySlot : (s.advanceTimer).inDelaySlot = s.inDelaySlot := rfl
@[simp] theorem State.advanceTimer_llbit : (s.advanceTimer).llbit = s.llbit := rfl
@[simp] theorem State.advanceTimer_fpr : (s.advanceTimer).fpr = s.fpr := rfl
@[simp] theorem State.advanceTimer_fcr0 : (s.advanceTimer).fcr0 = s.fcr0 := rfl
@[simp] theorem State.advanceTimer_fcr31 : (s.advanceTimer).fcr31 = s.fcr31 := rfl
@[simp] theorem State.advanceTimer_tlb : (s.advanceTimer).tlb = s.tlb := rfl
@[simp] theorem State.advanceTimer_mem : (s.advanceTimer).mem = s.mem := rfl
@[simp] theorem State.advanceTimer_busMap : (s.advanceTimer).busMap = s.busMap := rfl
@[simp] theorem State.advanceTimer_busTrace : (s.advanceTimer).busTrace = s.busTrace := rfl
@[simp] theorem State.advanceTimer_extInt : (s.advanceTimer).extInt = s.extInt := rfl
@[simp] theorem State.advanceTimer_extIntNext : (s.advanceTimer).extIntNext = s.extIntNext := rfl
@[simp] theorem State.advanceTimer_countInc : (s.advanceTimer).countInc = s.countInc := rfl
@[simp] theorem State.advanceTimer_randomPolicy : (s.advanceTimer).randomPolicy = s.randomPolicy := rfl
@[simp] theorem State.advanceTimer_freeIx : (s.advanceTimer).freeIx = s.freeIx := rfl

/-! ### sampleInputs -/

@[simp] theorem State.sampleInputs_gpr : (s.sampleInputs).gpr = s.gpr := rfl
@[simp] theorem State.sampleInputs_hi : (s.sampleInputs).hi = s.hi := rfl
@[simp] theorem State.sampleInputs_lo : (s.sampleInputs).lo = s.lo := rfl
@[simp] theorem State.sampleInputs_pc : (s.sampleInputs).pc = s.pc := rfl
@[simp] theorem State.sampleInputs_nextPc : (s.sampleInputs).nextPc = s.nextPc := rfl
@[simp] theorem State.sampleInputs_prevPc : (s.sampleInputs).prevPc = s.prevPc := rfl
@[simp] theorem State.sampleInputs_branchPending : (s.sampleInputs).branchPending = s.branchPending := rfl
@[simp] theorem State.sampleInputs_inDelaySlot : (s.sampleInputs).inDelaySlot = s.inDelaySlot := rfl
@[simp] theorem State.sampleInputs_llbit : (s.sampleInputs).llbit = s.llbit := rfl
@[simp] theorem State.sampleInputs_fpr : (s.sampleInputs).fpr = s.fpr := rfl
@[simp] theorem State.sampleInputs_fcr0 : (s.sampleInputs).fcr0 = s.fcr0 := rfl
@[simp] theorem State.sampleInputs_fcr31 : (s.sampleInputs).fcr31 = s.fcr31 := rfl
@[simp] theorem State.sampleInputs_tlb : (s.sampleInputs).tlb = s.tlb := rfl
@[simp] theorem State.sampleInputs_mem : (s.sampleInputs).mem = s.mem := rfl
@[simp] theorem State.sampleInputs_busMap : (s.sampleInputs).busMap = s.busMap := rfl
@[simp] theorem State.sampleInputs_busTrace : (s.sampleInputs).busTrace = s.busTrace := rfl
@[simp] theorem State.sampleInputs_extInt : (s.sampleInputs).extInt = s.sampledLines := rfl
@[simp] theorem State.sampleInputs_extIntNext : (s.sampleInputs).extIntNext = s.extIntNext.tail := rfl
@[simp] theorem State.sampleInputs_countInc : (s.sampleInputs).countInc = s.countInc := rfl
@[simp] theorem State.sampleInputs_randomPolicy : (s.sampleInputs).randomPolicy = s.randomPolicy := rfl
@[simp] theorem State.sampleInputs_freeIx : (s.sampleInputs).freeIx = s.freeIx := rfl

/-! ### updateRandom -/

@[simp] theorem State.updateRandom_gpr : (s.updateRandom).gpr = s.gpr := rfl
@[simp] theorem State.updateRandom_hi : (s.updateRandom).hi = s.hi := rfl
@[simp] theorem State.updateRandom_lo : (s.updateRandom).lo = s.lo := rfl
@[simp] theorem State.updateRandom_pc : (s.updateRandom).pc = s.pc := rfl
@[simp] theorem State.updateRandom_nextPc : (s.updateRandom).nextPc = s.nextPc := rfl
@[simp] theorem State.updateRandom_prevPc : (s.updateRandom).prevPc = s.prevPc := rfl
@[simp] theorem State.updateRandom_branchPending : (s.updateRandom).branchPending = s.branchPending := rfl
@[simp] theorem State.updateRandom_inDelaySlot : (s.updateRandom).inDelaySlot = s.inDelaySlot := rfl
@[simp] theorem State.updateRandom_llbit : (s.updateRandom).llbit = s.llbit := rfl
@[simp] theorem State.updateRandom_fpr : (s.updateRandom).fpr = s.fpr := rfl
@[simp] theorem State.updateRandom_fcr0 : (s.updateRandom).fcr0 = s.fcr0 := rfl
@[simp] theorem State.updateRandom_fcr31 : (s.updateRandom).fcr31 = s.fcr31 := rfl
@[simp] theorem State.updateRandom_tlb : (s.updateRandom).tlb = s.tlb := rfl
@[simp] theorem State.updateRandom_mem : (s.updateRandom).mem = s.mem := rfl
@[simp] theorem State.updateRandom_busMap : (s.updateRandom).busMap = s.busMap := rfl
@[simp] theorem State.updateRandom_busTrace : (s.updateRandom).busTrace = s.busTrace := rfl
@[simp] theorem State.updateRandom_extInt : (s.updateRandom).extInt = s.extInt := rfl
@[simp] theorem State.updateRandom_extIntNext : (s.updateRandom).extIntNext = s.extIntNext := rfl
@[simp] theorem State.updateRandom_countInc : (s.updateRandom).countInc = s.countInc := rfl
@[simp] theorem State.updateRandom_randomPolicy : (s.updateRandom).randomPolicy = s.randomPolicy := rfl
@[simp] theorem State.updateRandom_freeIx : (s.updateRandom).freeIx = s.freeIx + 1 := rfl

/-! ### advancePc -/

@[simp] theorem State.advancePc_gpr : (s.advancePc).gpr = s.gpr := rfl
@[simp] theorem State.advancePc_hi : (s.advancePc).hi = s.hi := rfl
@[simp] theorem State.advancePc_lo : (s.advancePc).lo = s.lo := rfl
@[simp] theorem State.advancePc_pc : (s.advancePc).pc = s.nextPc := rfl
@[simp] theorem State.advancePc_nextPc : (s.advancePc).nextPc = s.nextPc + 4#64 := rfl
@[simp] theorem State.advancePc_prevPc : (s.advancePc).prevPc = s.pc := rfl
@[simp] theorem State.advancePc_branchPending : (s.advancePc).branchPending = false := rfl
@[simp] theorem State.advancePc_inDelaySlot : (s.advancePc).inDelaySlot = s.branchPending := rfl
@[simp] theorem State.advancePc_llbit : (s.advancePc).llbit = s.llbit := rfl
@[simp] theorem State.advancePc_fpr : (s.advancePc).fpr = s.fpr := rfl
@[simp] theorem State.advancePc_fcr0 : (s.advancePc).fcr0 = s.fcr0 := rfl
@[simp] theorem State.advancePc_fcr31 : (s.advancePc).fcr31 = s.fcr31 := rfl
@[simp] theorem State.advancePc_cp0 : (s.advancePc).cp0 = s.cp0 := rfl
@[simp] theorem State.advancePc_tlb : (s.advancePc).tlb = s.tlb := rfl
@[simp] theorem State.advancePc_mem : (s.advancePc).mem = s.mem := rfl
@[simp] theorem State.advancePc_busMap : (s.advancePc).busMap = s.busMap := rfl
@[simp] theorem State.advancePc_busTrace : (s.advancePc).busTrace = s.busTrace := rfl
@[simp] theorem State.advancePc_extInt : (s.advancePc).extInt = s.extInt := rfl
@[simp] theorem State.advancePc_extIntNext : (s.advancePc).extIntNext = s.extIntNext := rfl
@[simp] theorem State.advancePc_countInc : (s.advancePc).countInc = s.countInc := rfl
@[simp] theorem State.advancePc_randomPolicy : (s.advancePc).randomPolicy = s.randomPolicy := rfl
@[simp] theorem State.advancePc_freeIx : (s.advancePc).freeIx = s.freeIx := rfl

/-! ### Coprocessor 0 under the shared operations -/

@[simp] theorem State.recordFaultAddress_cp0_index (va : Dword) : (s.recordFaultAddress va).cp0.index = s.cp0.index := rfl
@[simp] theorem State.recordFaultAddress_cp0_random (va : Dword) : (s.recordFaultAddress va).cp0.random = s.cp0.random := rfl
@[simp] theorem State.recordFaultAddress_cp0_entryLo0 (va : Dword) : (s.recordFaultAddress va).cp0.entryLo0 = s.cp0.entryLo0 := rfl
@[simp] theorem State.recordFaultAddress_cp0_entryLo1 (va : Dword) : (s.recordFaultAddress va).cp0.entryLo1 = s.cp0.entryLo1 := rfl
@[simp] theorem State.recordFaultAddress_cp0_pageMask (va : Dword) : (s.recordFaultAddress va).cp0.pageMask = s.cp0.pageMask := rfl
@[simp] theorem State.recordFaultAddress_cp0_wired (va : Dword) : (s.recordFaultAddress va).cp0.wired = s.cp0.wired := rfl
@[simp] theorem State.recordFaultAddress_cp0_cnt33 (va : Dword) : (s.recordFaultAddress va).cp0.cnt33 = s.cp0.cnt33 := rfl
@[simp] theorem State.recordFaultAddress_cp0_compare (va : Dword) : (s.recordFaultAddress va).cp0.compare = s.cp0.compare := rfl
@[simp] theorem State.recordFaultAddress_cp0_status (va : Dword) : (s.recordFaultAddress va).cp0.status = s.cp0.status := rfl
@[simp] theorem State.recordFaultAddress_cp0_cause (va : Dword) : (s.recordFaultAddress va).cp0.cause = s.cp0.cause := rfl
@[simp] theorem State.recordFaultAddress_cp0_epc (va : Dword) : (s.recordFaultAddress va).cp0.epc = s.cp0.epc := rfl
@[simp] theorem State.recordFaultAddress_cp0_prid (va : Dword) : (s.recordFaultAddress va).cp0.prid = s.cp0.prid := rfl
@[simp] theorem State.recordFaultAddress_cp0_config (va : Dword) : (s.recordFaultAddress va).cp0.config = s.cp0.config := rfl
@[simp] theorem State.recordFaultAddress_cp0_llAddr (va : Dword) : (s.recordFaultAddress va).cp0.llAddr = s.cp0.llAddr := rfl
@[simp] theorem State.recordFaultAddress_cp0_watchLo (va : Dword) : (s.recordFaultAddress va).cp0.watchLo = s.cp0.watchLo := rfl
@[simp] theorem State.recordFaultAddress_cp0_watchHi (va : Dword) : (s.recordFaultAddress va).cp0.watchHi = s.cp0.watchHi := rfl
@[simp] theorem State.recordFaultAddress_cp0_parityError (va : Dword) : (s.recordFaultAddress va).cp0.parityError = s.cp0.parityError := rfl
@[simp] theorem State.recordFaultAddress_cp0_cacheError (va : Dword) : (s.recordFaultAddress va).cp0.cacheError = s.cp0.cacheError := rfl
@[simp] theorem State.recordFaultAddress_cp0_tagLo (va : Dword) : (s.recordFaultAddress va).cp0.tagLo = s.cp0.tagLo := rfl
@[simp] theorem State.recordFaultAddress_cp0_tagHi (va : Dword) : (s.recordFaultAddress va).cp0.tagHi = s.cp0.tagHi := rfl
@[simp] theorem State.recordFaultAddress_cp0_errorEpc (va : Dword) : (s.recordFaultAddress va).cp0.errorEpc = s.cp0.errorEpc := rfl

@[simp] theorem State.recordFaultAddress_cp0_badVAddr (va : Dword) : (s.recordFaultAddress va).cp0.badVAddr = va := rfl

@[simp] theorem State.takeException_cp0_index (e : Exc) : (s.takeException e).cp0.index = s.cp0.index := rfl
@[simp] theorem State.takeException_cp0_random (e : Exc) : (s.takeException e).cp0.random = s.cp0.random := rfl
@[simp] theorem State.takeException_cp0_entryLo0 (e : Exc) : (s.takeException e).cp0.entryLo0 = s.cp0.entryLo0 := rfl
@[simp] theorem State.takeException_cp0_entryLo1 (e : Exc) : (s.takeException e).cp0.entryLo1 = s.cp0.entryLo1 := rfl
@[simp] theorem State.takeException_cp0_context (e : Exc) : (s.takeException e).cp0.context = s.cp0.context := rfl
@[simp] theorem State.takeException_cp0_pageMask (e : Exc) : (s.takeException e).cp0.pageMask = s.cp0.pageMask := rfl
@[simp] theorem State.takeException_cp0_wired (e : Exc) : (s.takeException e).cp0.wired = s.cp0.wired := rfl
@[simp] theorem State.takeException_cp0_badVAddr (e : Exc) : (s.takeException e).cp0.badVAddr = s.cp0.badVAddr := rfl
@[simp] theorem State.takeException_cp0_cnt33 (e : Exc) : (s.takeException e).cp0.cnt33 = s.cp0.cnt33 := rfl
@[simp] theorem State.takeException_cp0_entryHi (e : Exc) : (s.takeException e).cp0.entryHi = s.cp0.entryHi := rfl
@[simp] theorem State.takeException_cp0_compare (e : Exc) : (s.takeException e).cp0.compare = s.cp0.compare := rfl
@[simp] theorem State.takeException_cp0_prid (e : Exc) : (s.takeException e).cp0.prid = s.cp0.prid := rfl
@[simp] theorem State.takeException_cp0_config (e : Exc) : (s.takeException e).cp0.config = s.cp0.config := rfl
@[simp] theorem State.takeException_cp0_llAddr (e : Exc) : (s.takeException e).cp0.llAddr = s.cp0.llAddr := rfl
@[simp] theorem State.takeException_cp0_watchLo (e : Exc) : (s.takeException e).cp0.watchLo = s.cp0.watchLo := rfl
@[simp] theorem State.takeException_cp0_watchHi (e : Exc) : (s.takeException e).cp0.watchHi = s.cp0.watchHi := rfl
@[simp] theorem State.takeException_cp0_xContext (e : Exc) : (s.takeException e).cp0.xContext = s.cp0.xContext := rfl
@[simp] theorem State.takeException_cp0_parityError (e : Exc) : (s.takeException e).cp0.parityError = s.cp0.parityError := rfl
@[simp] theorem State.takeException_cp0_cacheError (e : Exc) : (s.takeException e).cp0.cacheError = s.cp0.cacheError := rfl
@[simp] theorem State.takeException_cp0_tagLo (e : Exc) : (s.takeException e).cp0.tagLo = s.cp0.tagLo := rfl
@[simp] theorem State.takeException_cp0_tagHi (e : Exc) : (s.takeException e).cp0.tagHi = s.cp0.tagHi := rfl
@[simp] theorem State.takeException_cp0_errorEpc (e : Exc) : (s.takeException e).cp0.errorEpc = s.cp0.errorEpc := rfl

@[simp] theorem State.takeException_cp0_cause (e : Exc) : (s.takeException e).cp0.cause = s.causeAfter e := rfl
@[simp] theorem State.takeException_cp0_epc (e : Exc) :
    (s.takeException e).cp0.epc = if s.exl then s.cp0.epc else s.faultingPc := rfl
@[simp] theorem State.takeException_cp0_status (e : Exc) :
    (s.takeException e).cp0.status = s.cp0.status ||| 0x00000002#32 := rfl

@[simp] theorem State.returnFromException_cp0_index : (s.returnFromException).cp0.index = s.cp0.index := rfl
@[simp] theorem State.returnFromException_cp0_random : (s.returnFromException).cp0.random = s.cp0.random := rfl
@[simp] theorem State.returnFromException_cp0_entryLo0 : (s.returnFromException).cp0.entryLo0 = s.cp0.entryLo0 := rfl
@[simp] theorem State.returnFromException_cp0_entryLo1 : (s.returnFromException).cp0.entryLo1 = s.cp0.entryLo1 := rfl
@[simp] theorem State.returnFromException_cp0_context : (s.returnFromException).cp0.context = s.cp0.context := rfl
@[simp] theorem State.returnFromException_cp0_pageMask : (s.returnFromException).cp0.pageMask = s.cp0.pageMask := rfl
@[simp] theorem State.returnFromException_cp0_wired : (s.returnFromException).cp0.wired = s.cp0.wired := rfl
@[simp] theorem State.returnFromException_cp0_badVAddr : (s.returnFromException).cp0.badVAddr = s.cp0.badVAddr := rfl
@[simp] theorem State.returnFromException_cp0_cnt33 : (s.returnFromException).cp0.cnt33 = s.cp0.cnt33 := rfl
@[simp] theorem State.returnFromException_cp0_entryHi : (s.returnFromException).cp0.entryHi = s.cp0.entryHi := rfl
@[simp] theorem State.returnFromException_cp0_compare : (s.returnFromException).cp0.compare = s.cp0.compare := rfl
@[simp] theorem State.returnFromException_cp0_cause : (s.returnFromException).cp0.cause = s.cp0.cause := rfl
@[simp] theorem State.returnFromException_cp0_epc : (s.returnFromException).cp0.epc = s.cp0.epc := rfl
@[simp] theorem State.returnFromException_cp0_prid : (s.returnFromException).cp0.prid = s.cp0.prid := rfl
@[simp] theorem State.returnFromException_cp0_config : (s.returnFromException).cp0.config = s.cp0.config := rfl
@[simp] theorem State.returnFromException_cp0_llAddr : (s.returnFromException).cp0.llAddr = s.cp0.llAddr := rfl
@[simp] theorem State.returnFromException_cp0_watchLo : (s.returnFromException).cp0.watchLo = s.cp0.watchLo := rfl
@[simp] theorem State.returnFromException_cp0_watchHi : (s.returnFromException).cp0.watchHi = s.cp0.watchHi := rfl
@[simp] theorem State.returnFromException_cp0_xContext : (s.returnFromException).cp0.xContext = s.cp0.xContext := rfl
@[simp] theorem State.returnFromException_cp0_parityError : (s.returnFromException).cp0.parityError = s.cp0.parityError := rfl
@[simp] theorem State.returnFromException_cp0_cacheError : (s.returnFromException).cp0.cacheError = s.cp0.cacheError := rfl
@[simp] theorem State.returnFromException_cp0_tagLo : (s.returnFromException).cp0.tagLo = s.cp0.tagLo := rfl
@[simp] theorem State.returnFromException_cp0_tagHi : (s.returnFromException).cp0.tagHi = s.cp0.tagHi := rfl
@[simp] theorem State.returnFromException_cp0_errorEpc : (s.returnFromException).cp0.errorEpc = s.cp0.errorEpc := rfl

@[simp] theorem State.advanceTimer_cp0_index : (s.advanceTimer).cp0.index = s.cp0.index := rfl
@[simp] theorem State.advanceTimer_cp0_random : (s.advanceTimer).cp0.random = s.cp0.random := rfl
@[simp] theorem State.advanceTimer_cp0_entryLo0 : (s.advanceTimer).cp0.entryLo0 = s.cp0.entryLo0 := rfl
@[simp] theorem State.advanceTimer_cp0_entryLo1 : (s.advanceTimer).cp0.entryLo1 = s.cp0.entryLo1 := rfl
@[simp] theorem State.advanceTimer_cp0_context : (s.advanceTimer).cp0.context = s.cp0.context := rfl
@[simp] theorem State.advanceTimer_cp0_pageMask : (s.advanceTimer).cp0.pageMask = s.cp0.pageMask := rfl
@[simp] theorem State.advanceTimer_cp0_wired : (s.advanceTimer).cp0.wired = s.cp0.wired := rfl
@[simp] theorem State.advanceTimer_cp0_badVAddr : (s.advanceTimer).cp0.badVAddr = s.cp0.badVAddr := rfl
@[simp] theorem State.advanceTimer_cp0_entryHi : (s.advanceTimer).cp0.entryHi = s.cp0.entryHi := rfl
@[simp] theorem State.advanceTimer_cp0_compare : (s.advanceTimer).cp0.compare = s.cp0.compare := rfl
@[simp] theorem State.advanceTimer_cp0_status : (s.advanceTimer).cp0.status = s.cp0.status := rfl
@[simp] theorem State.advanceTimer_cp0_epc : (s.advanceTimer).cp0.epc = s.cp0.epc := rfl
@[simp] theorem State.advanceTimer_cp0_prid : (s.advanceTimer).cp0.prid = s.cp0.prid := rfl
@[simp] theorem State.advanceTimer_cp0_config : (s.advanceTimer).cp0.config = s.cp0.config := rfl
@[simp] theorem State.advanceTimer_cp0_llAddr : (s.advanceTimer).cp0.llAddr = s.cp0.llAddr := rfl
@[simp] theorem State.advanceTimer_cp0_watchLo : (s.advanceTimer).cp0.watchLo = s.cp0.watchLo := rfl
@[simp] theorem State.advanceTimer_cp0_watchHi : (s.advanceTimer).cp0.watchHi = s.cp0.watchHi := rfl
@[simp] theorem State.advanceTimer_cp0_xContext : (s.advanceTimer).cp0.xContext = s.cp0.xContext := rfl
@[simp] theorem State.advanceTimer_cp0_parityError : (s.advanceTimer).cp0.parityError = s.cp0.parityError := rfl
@[simp] theorem State.advanceTimer_cp0_cacheError : (s.advanceTimer).cp0.cacheError = s.cp0.cacheError := rfl
@[simp] theorem State.advanceTimer_cp0_tagLo : (s.advanceTimer).cp0.tagLo = s.cp0.tagLo := rfl
@[simp] theorem State.advanceTimer_cp0_tagHi : (s.advanceTimer).cp0.tagHi = s.cp0.tagHi := rfl
@[simp] theorem State.advanceTimer_cp0_errorEpc : (s.advanceTimer).cp0.errorEpc = s.cp0.errorEpc := rfl

@[simp] theorem State.sampleInputs_cp0_index : (s.sampleInputs).cp0.index = s.cp0.index := rfl
@[simp] theorem State.sampleInputs_cp0_random : (s.sampleInputs).cp0.random = s.cp0.random := rfl
@[simp] theorem State.sampleInputs_cp0_entryLo0 : (s.sampleInputs).cp0.entryLo0 = s.cp0.entryLo0 := rfl
@[simp] theorem State.sampleInputs_cp0_entryLo1 : (s.sampleInputs).cp0.entryLo1 = s.cp0.entryLo1 := rfl
@[simp] theorem State.sampleInputs_cp0_context : (s.sampleInputs).cp0.context = s.cp0.context := rfl
@[simp] theorem State.sampleInputs_cp0_pageMask : (s.sampleInputs).cp0.pageMask = s.cp0.pageMask := rfl
@[simp] theorem State.sampleInputs_cp0_wired : (s.sampleInputs).cp0.wired = s.cp0.wired := rfl
@[simp] theorem State.sampleInputs_cp0_badVAddr : (s.sampleInputs).cp0.badVAddr = s.cp0.badVAddr := rfl
@[simp] theorem State.sampleInputs_cp0_cnt33 : (s.sampleInputs).cp0.cnt33 = s.cp0.cnt33 := rfl
@[simp] theorem State.sampleInputs_cp0_entryHi : (s.sampleInputs).cp0.entryHi = s.cp0.entryHi := rfl
@[simp] theorem State.sampleInputs_cp0_compare : (s.sampleInputs).cp0.compare = s.cp0.compare := rfl
@[simp] theorem State.sampleInputs_cp0_status : (s.sampleInputs).cp0.status = s.cp0.status := rfl
@[simp] theorem State.sampleInputs_cp0_epc : (s.sampleInputs).cp0.epc = s.cp0.epc := rfl
@[simp] theorem State.sampleInputs_cp0_prid : (s.sampleInputs).cp0.prid = s.cp0.prid := rfl
@[simp] theorem State.sampleInputs_cp0_config : (s.sampleInputs).cp0.config = s.cp0.config := rfl
@[simp] theorem State.sampleInputs_cp0_llAddr : (s.sampleInputs).cp0.llAddr = s.cp0.llAddr := rfl
@[simp] theorem State.sampleInputs_cp0_watchLo : (s.sampleInputs).cp0.watchLo = s.cp0.watchLo := rfl
@[simp] theorem State.sampleInputs_cp0_watchHi : (s.sampleInputs).cp0.watchHi = s.cp0.watchHi := rfl
@[simp] theorem State.sampleInputs_cp0_xContext : (s.sampleInputs).cp0.xContext = s.cp0.xContext := rfl
@[simp] theorem State.sampleInputs_cp0_parityError : (s.sampleInputs).cp0.parityError = s.cp0.parityError := rfl
@[simp] theorem State.sampleInputs_cp0_cacheError : (s.sampleInputs).cp0.cacheError = s.cp0.cacheError := rfl
@[simp] theorem State.sampleInputs_cp0_tagLo : (s.sampleInputs).cp0.tagLo = s.cp0.tagLo := rfl
@[simp] theorem State.sampleInputs_cp0_tagHi : (s.sampleInputs).cp0.tagHi = s.cp0.tagHi := rfl
@[simp] theorem State.sampleInputs_cp0_errorEpc : (s.sampleInputs).cp0.errorEpc = s.cp0.errorEpc := rfl

@[simp] theorem State.updateRandom_cp0_index : (s.updateRandom).cp0.index = s.cp0.index := rfl
@[simp] theorem State.updateRandom_cp0_entryLo0 : (s.updateRandom).cp0.entryLo0 = s.cp0.entryLo0 := rfl
@[simp] theorem State.updateRandom_cp0_entryLo1 : (s.updateRandom).cp0.entryLo1 = s.cp0.entryLo1 := rfl
@[simp] theorem State.updateRandom_cp0_context : (s.updateRandom).cp0.context = s.cp0.context := rfl
@[simp] theorem State.updateRandom_cp0_pageMask : (s.updateRandom).cp0.pageMask = s.cp0.pageMask := rfl
@[simp] theorem State.updateRandom_cp0_wired : (s.updateRandom).cp0.wired = s.cp0.wired := rfl
@[simp] theorem State.updateRandom_cp0_badVAddr : (s.updateRandom).cp0.badVAddr = s.cp0.badVAddr := rfl
@[simp] theorem State.updateRandom_cp0_cnt33 : (s.updateRandom).cp0.cnt33 = s.cp0.cnt33 := rfl
@[simp] theorem State.updateRandom_cp0_entryHi : (s.updateRandom).cp0.entryHi = s.cp0.entryHi := rfl
@[simp] theorem State.updateRandom_cp0_compare : (s.updateRandom).cp0.compare = s.cp0.compare := rfl
@[simp] theorem State.updateRandom_cp0_status : (s.updateRandom).cp0.status = s.cp0.status := rfl
@[simp] theorem State.updateRandom_cp0_cause : (s.updateRandom).cp0.cause = s.cp0.cause := rfl
@[simp] theorem State.updateRandom_cp0_epc : (s.updateRandom).cp0.epc = s.cp0.epc := rfl
@[simp] theorem State.updateRandom_cp0_prid : (s.updateRandom).cp0.prid = s.cp0.prid := rfl
@[simp] theorem State.updateRandom_cp0_config : (s.updateRandom).cp0.config = s.cp0.config := rfl
@[simp] theorem State.updateRandom_cp0_llAddr : (s.updateRandom).cp0.llAddr = s.cp0.llAddr := rfl
@[simp] theorem State.updateRandom_cp0_watchLo : (s.updateRandom).cp0.watchLo = s.cp0.watchLo := rfl
@[simp] theorem State.updateRandom_cp0_watchHi : (s.updateRandom).cp0.watchHi = s.cp0.watchHi := rfl
@[simp] theorem State.updateRandom_cp0_xContext : (s.updateRandom).cp0.xContext = s.cp0.xContext := rfl
@[simp] theorem State.updateRandom_cp0_parityError : (s.updateRandom).cp0.parityError = s.cp0.parityError := rfl
@[simp] theorem State.updateRandom_cp0_cacheError : (s.updateRandom).cp0.cacheError = s.cp0.cacheError := rfl
@[simp] theorem State.updateRandom_cp0_tagLo : (s.updateRandom).cp0.tagLo = s.cp0.tagLo := rfl
@[simp] theorem State.updateRandom_cp0_tagHi : (s.updateRandom).cp0.tagHi = s.cp0.tagHi := rfl
@[simp] theorem State.updateRandom_cp0_errorEpc : (s.updateRandom).cp0.errorEpc = s.cp0.errorEpc := rfl

/-! ### Reading a general register -/

@[simp] theorem State.x_zero : s.x 0#5 = 0#64 := rfl

/-- Reading what was written: x[0] reads 0, every other register its new value. -/
theorem State.x_setX_same (r : Reg) (v : Dword) : (s.setX r v).x r = if r = 0#5 then 0#64 else v := by
  unfold State.x State.setX
  split <;> simp_all

/-- A write leaves the other registers. -/
theorem State.x_setX_of_ne {r q : Reg} (v : Dword) (h : q ≠ r) : (s.setX r v).x q = s.x q := by
  unfold State.x State.setX
  have hn : r.toNat ≠ q.toNat := fun e => h (BitVec.eq_of_toNat_eq e.symm)
  by_cases hq : q = 0#5 <;> by_cases hr : r = 0#5 <;> simp_all

/-- The general registers decide what `x` reads. -/
theorem State.x_congr {s t : State} (h : t.gpr = s.gpr) (r : Reg) : t.x r = s.x r := by
  unfold State.x; rw [h]

/-! ### A floating-point cell -/

/-- Reading the cell that was written. -/
theorem State.fpr_setFpr_same (i : BitVec 5) (v : Dword) : (s.setFpr i v).fpr[i.toNat]'i.isLt = v := by simp

/-- A write leaves the other cells. -/
theorem State.fpr_setFpr_of_ne {i j : BitVec 5} (v : Dword) (h : j ≠ i) :
    (s.setFpr i v).fpr[j.toNat]'j.isLt = s.fpr[j.toNat]'j.isLt := by
  have hn : i.toNat ≠ j.toNat := fun e => h (BitVec.eq_of_toNat_eq e.symm)
  simp [hn]

end Sys2Proof.Machine
end

