-- ==== Sys2Proof/Laws/Frame.lean ====
section
/-! SUPPORT. Laws/Frame.lean: what each update of the state leaves, and how frames compose. -/

namespace Sys2Proof.Machine

variable {s t u : State} {v w : Part → Prop}

theorem Cp0.agree_refl (c : Cp0) (r : Cp0Reg) : c.agree c r := by cases r <;> rfl

theorem State.agree_refl (s : State) (p : Part) : s.agree s p := by
  cases p <;> first | rfl | exact Cp0.agree_refl ..

theorem Cp0.agree_trans {c d e : Cp0} {r : Cp0Reg} (h : c.agree d r) (k : d.agree e r) : c.agree e r := by
  cases r <;> exact Eq.trans k h

theorem State.agree_trans {p : Part} (h : s.agree t p) (k : t.agree u p) : s.agree u p := by
  cases p <;> first | exact Eq.trans k h | exact Cp0.agree_trans h k

/-- Nothing changes from a state to itself. -/
theorem State.changesOnly_refl (s : State) (w : Part → Prop) : s.changesOnly s w :=
  fun p _ => s.agree_refl p

/-- A frame may be widened. -/
theorem State.changesOnly_mono (h : s.changesOnly t v) (hv : ∀ p, v p → w p) : s.changesOnly t w :=
  fun p hp => h p (fun k => hp (hv p k))

/-- Two changes one after the other, each within one frame. -/
theorem State.changesOnly_trans (h : s.changesOnly t w) (k : t.changesOnly u w) : s.changesOnly u w :=
  fun p hp => State.agree_trans (h p hp) (k p hp)

theorem State.changesOnly_setX (s : State) (r : Reg) (x : Dword) (h : w (.gpr r)) : s.changesOnly (s.setX r x) w := by
  intro p hp
  cases p with
  | gpr q => exact State.x_setX_of_ne s x (fun e => hp (e ▸ h))
  | cp0 c => simpa [State.agree] using Cp0.agree_refl _ c
  | _ => simp [State.agree]

theorem State.changesOnly_setHiLo (s : State) (x y : Dword) (h : w .hi) (l : w .lo) :
    s.changesOnly (s.setHiLo x y) w := by
  intro p hp
  cases p with
  | hi => exact absurd h hp
  | lo => exact absurd l hp
  | cp0 c => exact Cp0.agree_refl _ c
  | _ => rfl

theorem State.changesOnly_setFcr31 (s : State) (f : Word) (h : w .fcr31) : s.changesOnly (s.setFcr31 f) w := by
  intro p hp
  cases p with
  | fcr31 => exact absurd h hp
  | cp0 c => exact Cp0.agree_refl _ c
  | _ => rfl

theorem State.changesOnly_setFpr (s : State) (i : FReg) (x : Dword) (h : w (.fpr i)) :
    s.changesOnly (s.setFpr i x) w := by
  intro p hp
  cases p with
  | fpr j => exact State.fpr_setFpr_of_ne s x (fun e => hp (e ▸ h))
  | cp0 c => exact Cp0.agree_refl _ c
  | _ => rfl

theorem State.changesOnly_setTlb (s : State) (i : Fin 32) (e : TlbEntry) (h : w (.tlb i)) :
    s.changesOnly (s.setTlb i e) w := by
  intro p hp
  cases p with
  | tlb j =>
    have hne : i.val ≠ j.val := fun k => hp (Fin.ext k ▸ h)
    simp [State.agree, hne]
  | cp0 c => exact Cp0.agree_refl _ c
  | _ => rfl

/-- Replacing the memory changes at most the bytes that read differently. -/
theorem State.changesOnly_setMem (s : State) (m : Memory)
    (h : ∀ a, ¬ w (.byte a) → Memory.read m a = Memory.read s.mem a) : s.changesOnly (s.setMem m) w := by
  intro p hp
  cases p with
  | byte a => exact h a hp
  | cp0 c => exact Cp0.agree_refl _ c
  | _ => rfl

/-- A read outside memory is seen by the platform; one of memory changes nothing. -/
theorem State.changesOnly_afterRead (s : State) (pa : Word) (n : Nat) (h : s.isMemory pa = false → w .busTrace) :
    s.changesOnly (s.afterRead pa n) w := by
  unfold State.afterRead
  split
  · exact s.changesOnly_refl w
  · next hm =>
    intro p hp
    cases p with
    | busTrace => exact absurd (h (by simpa using hm)) hp
    | cp0 c => exact Cp0.agree_refl _ c
    | _ => rfl

/-- A bus write changes at most the bytes of RAM that read differently, or what a device has seen. -/
theorem State.changesOnly_busWrite (s : State) (pa : Word) (n : Nat) (x : Dword) (m : Memory)
    (h : s.busKind pa = .ram → ∀ a, ¬ w (.byte a) → Memory.read m a = Memory.read s.mem a)
    (k : s.busKind pa = .device → w .busTrace) : s.changesOnly (s.busWrite pa n x m) w := by
  unfold State.busWrite
  split
  · next e => exact s.changesOnly_setMem m (h e)
  · exact s.changesOnly_refl w
  · next e =>
    intro p hp
    cases p with
    | busTrace => exact absurd (k e) hp
    | cp0 c => exact Cp0.agree_refl _ c
    | _ => rfl
  · exact s.changesOnly_refl w

/-- Replacing coprocessor 0 changes at most the registers that differ. -/
theorem State.changesOnly_setCp0 (s : State) (c : Cp0) (h : ∀ r, ¬ w (.cp0 r) → s.cp0.agree c r) :
    s.changesOnly (s.setCp0 c) w := by
  intro p hp
  cases p with
  | cp0 r => exact h r hp
  | _ => rfl

theorem State.changesOnly_branch (s : State) (c : Bool) (a : Dword) (h : w .branchPending) (k : w .nextPc) :
    s.changesOnly (s.branch c a) w := by
  intro p hp
  cases p with
  | branchPending => exact absurd h hp
  | nextPc => exact absurd k hp
  | cp0 c => exact Cp0.agree_refl _ c
  | _ => rfl

theorem State.changesOnly_branchLikely (s : State) (c : Bool) (a : Dword) (h : w .branchPending) (k : w .nextPc)
    (l : w .pc) : s.changesOnly (s.branchLikely c a) w := by
  unfold State.branchLikely
  split
  · exact s.changesOnly_branch true a h k
  · intro p hp
    cases p with
    | pc => exact absurd l hp
    | nextPc => exact absurd k hp
    | cp0 c => exact Cp0.agree_refl _ c
    | _ => rfl

/-- What taking an exception writes (60_exceptions R502). -/
theorem State.changesOnly_takeException (s : State) (e : Exc) :
    s.changesOnly (s.takeException e) fun p => p = .cp0 .cause ∨ p = .cp0 .epc ∨ p = .cp0 .status ∨ p = .pc
      ∨ p = .nextPc ∨ p = .branchPending ∨ p = .inDelaySlot := by
  intro p hp
  cases p with
  | cp0 r => cases r <;> first | rfl | simp at hp
  | pc | nextPc | branchPending | inDelaySlot => simp at hp
  | _ => rfl

/-- What recording a failing address writes (20_memory R99). -/
theorem State.changesOnly_recordFaultAddress (s : State) (va : Dword) :
    s.changesOnly (s.recordFaultAddress va) fun p => p = .cp0 .badVAddr ∨ p = .cp0 .context ∨ p = .cp0 .xContext
      ∨ p = .cp0 .entryHi := by
  intro p hp
  cases p with
  | cp0 r => cases r <;> first | rfl | simp at hp
  | _ => rfl

/-! ### Stores change the bytes they cover -/

theorem Memory.read_write8_outside {m : Memory} (h : m.wf = true) (pa : Word) (x : Byte) {a : Nat}
    (ha : ¬ bytesAt pa 1 (.byte a)) : Memory.read (m.write8 pa x) a = Memory.read m a := by
  rw [Memory.read_write8 h, if_neg]
  exact fun e => ha ⟨0, by omega, by simp [e]⟩

theorem Memory.read_write16_outside {m : Memory} (h : m.wf = true) (pa : Word) (x : Half) {a : Nat}
    (hp : pa.toNat % 2 = 0) (ha : ¬ bytesAt pa 2 (.byte a)) : Memory.read (m.write16 pa x) a = Memory.read m a := by
  have hb := pa.isLt
  rw [Memory.read_write16 h, if_neg, if_neg]
  · exact fun e => ha ⟨0, by omega, by simp [e]⟩
  · intro e
    rw [BitVec.toNat_add_of_lt (by simp; omega)] at e
    exact ha ⟨1, by omega, by simp [e]⟩

theorem Memory.read_write32_outside {m : Memory} (h : m.wf = true) (pa : Word) (x : Word) {a : Nat}
    (hp : pa.toNat % 4 = 0) (ha : ¬ bytesAt pa 4 (.byte a)) : Memory.read (m.write32 pa x) a = Memory.read m a := by
  have hb := pa.isLt
  have hk : ∀ k, k < 4 → a ≠ (pa + BitVec.ofNat 32 k).toNat := by
    intro k hk e
    refine ha ⟨k, hk, ?_⟩
    rw [e, BitVec.toNat_add, BitVec.toNat_ofNat]
    congr 1
    omega
  rw [Memory.read_write32 h, if_neg (hk 3 (by omega)), if_neg (hk 2 (by omega)), if_neg (hk 1 (by omega)),
    if_neg (by simpa using hk 0 (by omega))]

theorem Memory.read_write64_outside {m : Memory} (h : m.wf = true) (pa : Word) (x : Dword) {a : Nat}
    (hp : pa.toNat % 8 = 0) (ha : ¬ bytesAt pa 8 (.byte a)) : Memory.read (m.write64 pa x) a = Memory.read m a := by
  have hb := pa.isLt
  have hk : ∀ k, k < 8 → a ≠ (pa + BitVec.ofNat 32 k).toNat := by
    intro k hk e
    refine ha ⟨k, hk, ?_⟩
    rw [e, BitVec.toNat_add, BitVec.toNat_ofNat]
    congr 1
    omega
  rw [Memory.read_write64 h, if_neg (hk 7 (by omega)), if_neg (hk 6 (by omega)), if_neg (hk 5 (by omega)),
    if_neg (hk 4 (by omega)), if_neg (hk 3 (by omega)), if_neg (hk 2 (by omega)), if_neg (hk 1 (by omega)),
    if_neg (by simpa using hk 0 (by omega))]

end Sys2Proof.Machine
end

