-- ==== Sys2Proof/Laws/Bus.lean ====
section
/-! SUPPORT. Laws/Bus.lean: what a bus access answers and leaves, by what stands at the address. -/

namespace Sys2Proof.Machine

variable {s t : State} {pa : Word}

/-! ### What stands at an address -/

theorem State.isMemory_iff : s.isMemory pa = true ↔ s.busKind pa = .ram ∨ s.busKind pa = .rom := by
  unfold State.isMemory
  cases s.busKind pa <;> simp [BusKind.isMemory]

theorem State.isMemory_of_ram (h : s.busKind pa = .ram) : s.isMemory pa = true := State.isMemory_iff.2 (.inl h)

/-- What stands at an address depends on the platform's map alone. -/
theorem State.busKind_congr (h : t.busMap = s.busMap) (pa : Word) : t.busKind pa = s.busKind pa := by
  unfold State.busKind; rw [h]

theorem State.isMemory_congr (h : t.busMap = s.busMap) (pa : Word) : t.isMemory pa = s.isMemory pa := by
  unfold State.isMemory; rw [State.busKind_congr h]

/-! ### Reads -/

/-- A read of memory changes nothing. -/
theorem State.afterRead_of_memory (h : s.isMemory pa = true) (n : Nat) : s.afterRead pa n = s := by
  simp [State.afterRead, h]

theorem State.bus8_of_memory (h : s.isMemory pa = true) : s.bus8 pa = s.mem.read8 pa := by simp [State.bus8, h]
theorem State.bus16_of_memory (h : s.isMemory pa = true) : s.bus16 pa = s.mem.read16 pa := by simp [State.bus16, h]
theorem State.bus32_of_memory (h : s.isMemory pa = true) : s.bus32 pa = s.mem.read32 pa := by simp [State.bus32, h]
theorem State.bus64_of_memory (h : s.isMemory pa = true) : s.bus64 pa = s.mem.read64 pa := by simp [State.bus64, h]

/-- The platform's answer as a number. -/
theorem State.busAnswer_toNat {n : Nat} (hn : n ≤ 8) :
    (s.busAnswer pa n).toNat = (Config.busAnswer s.freeIx s.busTrace pa n).toNat % 256 ^ n := by
  have h : (2 : Nat) ^ (8 * n) ∣ 2 ^ 64 := Nat.pow_dvd_pow 2 (by omega)
  have e : (256 : Nat) ^ n = 2 ^ (8 * n) := by rw [Nat.pow_mul]
  have hp := Nat.mod_lt (Config.busAnswer s.freeIx s.busTrace pa n).toNat (Nat.two_pow_pos (8 * n))
  have hle := Nat.le_of_dvd (by decide) h
  rw [State.busAnswer, zext64, BitVec.toNat_setWidth, BitVec.toNat_setWidth, e, Nat.mod_eq_of_lt (by omega)]

/-- What the platform has seen after a read. -/
theorem State.afterRead_busTrace {n : Nat} (hn : n ≤ 8) :
    (s.afterRead pa n).busTrace = s.seenAfterRead pa n := by
  unfold State.afterRead State.seenAfterRead State.busNumber
  split
  · rfl
  · rw [← State.busAnswer_toNat hn, BitVec.ofNat_toNat, BitVec.setWidth_eq]
    rfl

/-! ### Writes -/

theorem State.busWrite_of_ram (h : s.busKind pa = .ram) (n : Nat) (v : Dword) (m : Memory) :
    s.busWrite pa n v m = s.setMem m := by simp [State.busWrite, h]

theorem State.busWrite_of_device (h : s.busKind pa = .device) (n : Nat) (v : Dword) (m : Memory) :
    s.busWrite pa n v m = s.traced { write := true, pa := pa, bytes := n, value := v } := by
  simp [State.busWrite, h]

/-- A write to ROM, or where nothing decodes the address, is lost. -/
theorem State.busWrite_lost (h : s.busKind pa = .rom ∨ s.busKind pa = .undecoded) (n : Nat) (v : Dword) (m : Memory) :
    s.busWrite pa n v m = s := by rcases h with h | h <;> simp [State.busWrite, h]

/-- A bus write keeps the memory's canonical form. -/
theorem State.busWrite_wf {n : Nat} {v : Dword} {m : Memory} (h : s.mem.wf = true) (hm : m.wf = true) :
    (s.busWrite pa n v m).mem.wf = true := by
  unfold State.busWrite
  split <;> assumption

end Sys2Proof.Machine
end

