-- ==== Sys2Proof/Laws/Encoding.lean ====
section
/-! SUPPORT. Laws/Encoding.lean: the fields of a packed word, and a packed word under the masks of
spec/opcode_table.json. -/

namespace Sys2Proof

variable (op funct : BitVec 6) (rs rt rd sa : BitVec 5) (imm : BitVec 16) (idx : BitVec 26)
variable (code20 : BitVec 20) (code10 : BitVec 10)

/-! ### packR -/

@[simp] theorem fOp_packR : fOp (packR op rs rt rd sa funct) = op := by
  unfold fOp packR; ext i hi; simp only [BitVec.getElem_extractLsb', BitVec.getLsbD_append]; grind
@[simp] theorem fRs_packR : fRs (packR op rs rt rd sa funct) = rs := by
  unfold fRs packR; ext i hi; simp only [BitVec.getElem_extractLsb', BitVec.getLsbD_append]; grind
@[simp] theorem fRt_packR : fRt (packR op rs rt rd sa funct) = rt := by
  unfold fRt packR; ext i hi; simp only [BitVec.getElem_extractLsb', BitVec.getLsbD_append]; grind
@[simp] theorem fRd_packR : fRd (packR op rs rt rd sa funct) = rd := by
  unfold fRd packR; ext i hi; simp only [BitVec.getElem_extractLsb', BitVec.getLsbD_append]; grind
@[simp] theorem fSa_packR : fSa (packR op rs rt rd sa funct) = sa := by
  unfold fSa packR; ext i hi; simp only [BitVec.getElem_extractLsb', BitVec.getLsbD_append]; grind
@[simp] theorem fFunct_packR : fFunct (packR op rs rt rd sa funct) = funct := by
  unfold fFunct packR; ext i hi; simp only [BitVec.getElem_extractLsb', BitVec.getLsbD_append]; grind
@[simp] theorem fCO_packR : fCO (packR op rs rt rd sa funct) = rs.extractLsb' 4 1 := by
  unfold fCO packR; ext i hi; simp only [BitVec.getElem_extractLsb', BitVec.getLsbD_append]; grind

/-! ### packI -/

@[simp] theorem fOp_packI : fOp (packI op rs rt imm) = op := by
  unfold fOp packI; ext i hi; simp only [BitVec.getElem_extractLsb', BitVec.getLsbD_append]; grind
@[simp] theorem fRs_packI : fRs (packI op rs rt imm) = rs := by
  unfold fRs packI; ext i hi; simp only [BitVec.getElem_extractLsb', BitVec.getLsbD_append]; grind
@[simp] theorem fRt_packI : fRt (packI op rs rt imm) = rt := by
  unfold fRt packI; ext i hi; simp only [BitVec.getElem_extractLsb', BitVec.getLsbD_append]; grind
@[simp] theorem fImm_packI : fImm (packI op rs rt imm) = imm := by
  unfold fImm packI; ext i hi; simp only [BitVec.getElem_extractLsb', BitVec.getLsbD_append]; grind

/-! ### packJ -/

@[simp] theorem fOp_packJ : fOp (packJ op idx) = op := by
  unfold fOp packJ; ext i hi; simp only [BitVec.getElem_extractLsb', BitVec.getLsbD_append]; grind
@[simp] theorem fIndex_packJ : fIndex (packJ op idx) = idx := by
  unfold fIndex packJ; ext i hi; simp only [BitVec.getElem_extractLsb', BitVec.getLsbD_append]; grind

/-! ### packCode20 -/

@[simp] theorem fOp_packCode20 : fOp (packCode20 code20 funct) = 0x00#6 := by
  unfold fOp packCode20; ext i hi; simp only [BitVec.getElem_extractLsb', BitVec.getLsbD_append]; grind
@[simp] theorem fFunct_packCode20 : fFunct (packCode20 code20 funct) = funct := by
  unfold fFunct packCode20; ext i hi; simp only [BitVec.getElem_extractLsb', BitVec.getLsbD_append]; grind
@[simp] theorem fCode20_packCode20 : fCode20 (packCode20 code20 funct) = code20 := by
  unfold fCode20 packCode20; ext i hi; simp only [BitVec.getElem_extractLsb', BitVec.getLsbD_append]; grind

/-! ### packCode10 -/

@[simp] theorem fOp_packCode10 : fOp (packCode10 rs rt code10 funct) = 0x00#6 := by
  unfold fOp packCode10; ext i hi; simp only [BitVec.getElem_extractLsb', BitVec.getLsbD_append]; grind
@[simp] theorem fRs_packCode10 : fRs (packCode10 rs rt code10 funct) = rs := by
  unfold fRs packCode10; ext i hi; simp only [BitVec.getElem_extractLsb', BitVec.getLsbD_append]; grind
@[simp] theorem fRt_packCode10 : fRt (packCode10 rs rt code10 funct) = rt := by
  unfold fRt packCode10; ext i hi; simp only [BitVec.getElem_extractLsb', BitVec.getLsbD_append]; grind
@[simp] theorem fCode10_packCode10 : fCode10 (packCode10 rs rt code10 funct) = code10 := by
  unfold fCode10 packCode10; ext i hi; simp only [BitVec.getElem_extractLsb', BitVec.getLsbD_append]; grind
@[simp] theorem fFunct_packCode10 : fFunct (packCode10 rs rt code10 funct) = funct := by
  unfold fFunct packCode10; ext i hi; simp only [BitVec.getElem_extractLsb', BitVec.getLsbD_append]; grind

/-! ### Masks -/

theorem packR_and (op op' : BitVec 6) (rs rs' : BitVec 5) (rt rt' : BitVec 5) (rd rd' : BitVec 5) (sa sa' : BitVec 5) (funct funct' : BitVec 6) :
    packR op rs rt rd sa funct &&& packR op' rs' rt' rd' sa' funct' = packR (op &&& op') (rs &&& rs') (rt &&& rt') (rd &&& rd') (sa &&& sa') (funct &&& funct') := by
  unfold packR
  ext i hi
  simp only [BitVec.getElem_and, BitVec.getElem_append]
  grind

theorem packI_and (op op' : BitVec 6) (rs rs' : BitVec 5) (rt rt' : BitVec 5) (imm imm' : BitVec 16) :
    packI op rs rt imm &&& packI op' rs' rt' imm' = packI (op &&& op') (rs &&& rs') (rt &&& rt') (imm &&& imm') := by
  unfold packI
  ext i hi
  simp only [BitVec.getElem_and, BitVec.getElem_append]
  grind

theorem packJ_and (op op' : BitVec 6) (idx idx' : BitVec 26) :
    packJ op idx &&& packJ op' idx' = packJ (op &&& op') (idx &&& idx') := by
  unfold packJ
  ext i hi
  simp only [BitVec.getElem_and, BitVec.getElem_append]
  grind

theorem packCode20_and (op' : BitVec 6) (code20 code20' : BitVec 20) (funct funct' : BitVec 6) :
    packCode20 code20 funct &&& (op' ++ code20' ++ funct') = packCode20 (code20 &&& code20') (funct &&& funct') := by
  unfold packCode20
  ext i hi
  simp only [BitVec.getElem_and, BitVec.getElem_append]
  grind

theorem packCode10_and (op' : BitVec 6) (rs rs' : BitVec 5) (rt rt' : BitVec 5) (code10 code10' : BitVec 10) (funct funct' : BitVec 6) :
    packCode10 rs rt code10 funct &&& (op' ++ rs' ++ rt' ++ code10' ++ funct') = packCode10 (rs &&& rs') (rt &&& rt') (code10 &&& code10') (funct &&& funct') := by
  unfold packCode10
  ext i hi
  simp only [BitVec.getElem_and, BitVec.getElem_append]
  grind

theorem packR_and_FC00003F : packR op rs rt rd sa funct &&& 0xFC00003F#32 = packR op 0#5 0#5 0#5 0#5 funct := by
  rw [show 0xFC00003F#32 = packR (BitVec.allOnes 6) 0#5 0#5 0#5 0#5 (BitVec.allOnes 6) from rfl, packR_and]
  simp only [BitVec.and_allOnes, BitVec.and_zero]

theorem packR_and_000007C0 : packR op rs rt rd sa funct &&& 0x000007C0#32 = packR 0#6 0#5 0#5 0#5 sa 0#6 := by
  rw [show 0x000007C0#32 = packR 0#6 0#5 0#5 0#5 (BitVec.allOnes 5) 0#6 from rfl, packR_and]
  simp only [BitVec.and_allOnes, BitVec.and_zero]

theorem packI_and_FC000000 : packI op rs rt imm &&& 0xFC000000#32 = packI op 0#5 0#5 0#16 := by
  rw [show 0xFC000000#32 = packI (BitVec.allOnes 6) 0#5 0#5 0#16 from rfl, packI_and]
  simp only [BitVec.and_allOnes, BitVec.and_zero]

theorem packI_and_00000000 : packI op rs rt imm &&& 0x00000000#32 = packI 0#6 0#5 0#5 0#16 := by
  rw [show 0x00000000#32 = packI 0#6 0#5 0#5 0#16 from rfl, packI_and]
  simp only [BitVec.and_zero]

theorem packI_and_03E00000 : packI op rs rt imm &&& 0x03E00000#32 = packI 0#6 rs 0#5 0#16 := by
  rw [show 0x03E00000#32 = packI 0#6 (BitVec.allOnes 5) 0#5 0#16 from rfl, packI_and]
  simp only [BitVec.and_allOnes, BitVec.and_zero]

theorem packR_and_03E00000 : packR op rs rt rd sa funct &&& 0x03E00000#32 = packR 0#6 rs 0#5 0#5 0#5 0#6 := by
  rw [show 0x03E00000#32 = packR 0#6 (BitVec.allOnes 5) 0#5 0#5 0#5 0#6 from rfl, packR_and]
  simp only [BitVec.and_allOnes, BitVec.and_zero]

theorem packR_and_0000FFC0 : packR op rs rt rd sa funct &&& 0x0000FFC0#32 = packR 0#6 0#5 0#5 rd sa 0#6 := by
  rw [show 0x0000FFC0#32 = packR 0#6 0#5 0#5 (BitVec.allOnes 5) (BitVec.allOnes 5) 0#6 from rfl, packR_and]
  simp only [BitVec.and_allOnes, BitVec.and_zero]

theorem packR_and_03FF07C0 : packR op rs rt rd sa funct &&& 0x03FF07C0#32 = packR 0#6 rs rt 0#5 sa 0#6 := by
  rw [show 0x03FF07C0#32 = packR 0#6 (BitVec.allOnes 5) (BitVec.allOnes 5) 0#5 (BitVec.allOnes 5) 0#6 from rfl, packR_and]
  simp only [BitVec.and_allOnes, BitVec.and_zero]

theorem packR_and_001FFFC0 : packR op rs rt rd sa funct &&& 0x001FFFC0#32 = packR 0#6 0#5 rt rd sa 0#6 := by
  rw [show 0x001FFFC0#32 = packR 0#6 0#5 (BitVec.allOnes 5) (BitVec.allOnes 5) (BitVec.allOnes 5) 0#6 from rfl, packR_and]
  simp only [BitVec.and_allOnes, BitVec.and_zero]

theorem packJ_and_FC000000 : packJ op idx &&& 0xFC000000#32 = packJ op 0#26 := by
  rw [show 0xFC000000#32 = packJ (BitVec.allOnes 6) 0#26 from rfl, packJ_and]
  simp only [BitVec.and_allOnes, BitVec.and_zero]

theorem packJ_and_00000000 : packJ op idx &&& 0x00000000#32 = packJ 0#6 0#26 := by
  rw [show 0x00000000#32 = packJ 0#6 0#26 from rfl, packJ_and]
  simp only [BitVec.and_zero]

theorem packR_and_001F07C0 : packR op rs rt rd sa funct &&& 0x001F07C0#32 = packR 0#6 0#5 rt 0#5 sa 0#6 := by
  rw [show 0x001F07C0#32 = packR 0#6 0#5 (BitVec.allOnes 5) 0#5 (BitVec.allOnes 5) 0#6 from rfl, packR_and]
  simp only [BitVec.and_allOnes, BitVec.and_zero]

theorem packI_and_001F0000 : packI op rs rt imm &&& 0x001F0000#32 = packI 0#6 0#5 rt 0#16 := by
  rw [show 0x001F0000#32 = packI 0#6 0#5 (BitVec.allOnes 5) 0#16 from rfl, packI_and]
  simp only [BitVec.and_allOnes, BitVec.and_zero]

theorem packI_and_FC1F0000 : packI op rs rt imm &&& 0xFC1F0000#32 = packI op 0#5 rt 0#16 := by
  rw [show 0xFC1F0000#32 = packI (BitVec.allOnes 6) 0#5 (BitVec.allOnes 5) 0#16 from rfl, packI_and]
  simp only [BitVec.and_allOnes, BitVec.and_zero]

theorem packCode20_and_FC00003F : packCode20 code20 funct &&& 0xFC00003F#32 = packCode20 0#20 funct := by
  rw [show 0xFC00003F#32 = 63#6 ++ 0#20 ++ BitVec.allOnes 6 from rfl, packCode20_and]
  simp only [BitVec.and_allOnes, BitVec.and_zero]

theorem packCode20_and_00000000 : packCode20 code20 funct &&& 0x00000000#32 = packCode20 0#20 0#6 := by
  rw [show 0x00000000#32 = 0#6 ++ 0#20 ++ 0#6 from rfl, packCode20_and]
  simp only [BitVec.and_zero]

theorem packR_and_03FFFFC0 : packR op rs rt rd sa funct &&& 0x03FFFFC0#32 = packR 0#6 rs rt rd sa 0#6 := by
  rw [show 0x03FFFFC0#32 = packR 0#6 (BitVec.allOnes 5) (BitVec.allOnes 5) (BitVec.allOnes 5) (BitVec.allOnes 5) 0#6 from rfl, packR_and]
  simp only [BitVec.and_allOnes, BitVec.and_zero]

theorem packCode10_and_FC00003F : packCode10 rs rt code10 funct &&& 0xFC00003F#32 = packCode10 0#5 0#5 0#10 funct := by
  rw [show 0xFC00003F#32 = 63#6 ++ 0#5 ++ 0#5 ++ 0#10 ++ BitVec.allOnes 6 from rfl, packCode10_and]
  simp only [BitVec.and_allOnes, BitVec.and_zero]

theorem packCode10_and_00000000 : packCode10 rs rt code10 funct &&& 0x00000000#32 = packCode10 0#5 0#5 0#10 0#6 := by
  rw [show 0x00000000#32 = 0#6 ++ 0#5 ++ 0#5 ++ 0#10 ++ 0#6 from rfl, packCode10_and]
  simp only [BitVec.and_zero]

theorem packR_and_FFE00000 : packR op rs rt rd sa funct &&& 0xFFE00000#32 = packR op rs 0#5 0#5 0#5 0#6 := by
  rw [show 0xFFE00000#32 = packR (BitVec.allOnes 6) (BitVec.allOnes 5) 0#5 0#5 0#5 0#6 from rfl, packR_and]
  simp only [BitVec.and_allOnes, BitVec.and_zero]

theorem packR_and_000007FF : packR op rs rt rd sa funct &&& 0x000007FF#32 = packR 0#6 0#5 0#5 0#5 sa funct := by
  rw [show 0x000007FF#32 = packR 0#6 0#5 0#5 0#5 (BitVec.allOnes 5) (BitVec.allOnes 6) from rfl, packR_and]
  simp only [BitVec.and_allOnes, BitVec.and_zero]

theorem packR_and_FE00003F : packR op rs rt rd sa funct &&& 0xFE00003F#32 = packR op (rs &&& 16#5) 0#5 0#5 0#5 funct := by
  rw [show 0xFE00003F#32 = packR (BitVec.allOnes 6) 16#5 0#5 0#5 0#5 (BitVec.allOnes 6) from rfl, packR_and]
  simp only [BitVec.and_allOnes, BitVec.and_zero]

theorem packR_and_01FFFFC0 : packR op rs rt rd sa funct &&& 0x01FFFFC0#32 = packR 0#6 (rs &&& 15#5) rt rd sa 0#6 := by
  rw [show 0x01FFFFC0#32 = packR 0#6 15#5 (BitVec.allOnes 5) (BitVec.allOnes 5) (BitVec.allOnes 5) 0#6 from rfl, packR_and]
  simp only [BitVec.and_allOnes, BitVec.and_zero]

theorem packI_and_FFFF0000 : packI op rs rt imm &&& 0xFFFF0000#32 = packI op rs rt 0#16 := by
  rw [show 0xFFFF0000#32 = packI (BitVec.allOnes 6) (BitVec.allOnes 5) (BitVec.allOnes 5) 0#16 from rfl, packI_and]
  simp only [BitVec.and_allOnes, BitVec.and_zero]

theorem packR_and_FFE0003F : packR op rs rt rd sa funct &&& 0xFFE0003F#32 = packR op rs 0#5 0#5 0#5 funct := by
  rw [show 0xFFE0003F#32 = packR (BitVec.allOnes 6) (BitVec.allOnes 5) 0#5 0#5 0#5 (BitVec.allOnes 6) from rfl, packR_and]
  simp only [BitVec.and_allOnes, BitVec.and_zero]

theorem packR_and_00000000 : packR op rs rt rd sa funct &&& 0x00000000#32 = packR 0#6 0#5 0#5 0#5 0#5 0#6 := by
  rw [show 0x00000000#32 = packR 0#6 0#5 0#5 0#5 0#5 0#6 from rfl, packR_and]
  simp only [BitVec.and_zero]

theorem packR_and_001F0000 : packR op rs rt rd sa funct &&& 0x001F0000#32 = packR 0#6 0#5 rt 0#5 0#5 0#6 := by
  rw [show 0x001F0000#32 = packR 0#6 0#5 (BitVec.allOnes 5) 0#5 0#5 0#6 from rfl, packR_and]
  simp only [BitVec.and_allOnes, BitVec.and_zero]

end Sys2Proof
end

