-- ==== Sys2Proof/Laws/Ops.lean ====
section
/-! SUPPORT. Laws/Ops.lean: for each shared operation, when it goes on and what it is when it does not. -/

namespace Sys2Proof.Machine

variable {s t : State}

/-! ### The checks of a handler (30_encoding R160, R161) -/

theorem State.check64_of (h : s.ops64 = true) (k : Result) : s.check64 k = k := by simp [State.check64, h]
theorem State.check64_not (h : s.ops64 = false) (k : Result) : s.check64 k = .next (s.takeException .ri) := by
  simp [State.check64, h, State.raise]
theorem State.checkCop0_of (h : s.kernelMode = true ∨ s.cu0 = true) (k : Result) : s.checkCop0 k = k := by
  rcases h with h | h <;> simp [State.checkCop0, h]
theorem State.checkCop0_not (h : s.kernelMode = false) (h0 : s.cu0 = false) (k : Result) :
    s.checkCop0 k = .next (s.takeException (.cpu 0#2)) := by simp [State.checkCop0, h, h0, State.raise]
theorem State.checkCop1_of (h : s.cu1 = true) (k : Result) : s.checkCop1 k = k := by simp [State.checkCop1, h]
theorem State.checkCop1_not (h : s.cu1 = false) (k : Result) :
    s.checkCop1 k = .next (s.takeException (.cpu 1#2)) := by simp [State.checkCop1, h, State.raise]
theorem State.checkCop2_of (h : s.cu2 = true) (k : Result) : s.checkCop2 k = k := by simp [State.checkCop2, h]
theorem State.checkCop2_not (h : s.cu2 = false) (k : Result) :
    s.checkCop2 k = .next (s.takeException (.cpu 2#2)) := by simp [State.checkCop2, h, State.raise]

/-- What an exception that records an address answers. -/
theorem State.raiseAt_eq (s : State) (va : Dword) (e : Exc) :
    s.raiseAt va e = .next ((s.recordFaultAddress va).takeException e) := rfl

/-- What an exception answers. -/
theorem State.raise_eq (s : State) (e : Exc) : s.raise e = .next (s.takeException e) := rfl

/-! ### Memory accesses (20_memory R83, R84, R94) -/

theorem State.translated_ok {va : Dword} {kind : Access} {pa : Word} (h : s.translate va kind = .ok pa)
    (k : Word → Result) : s.translated va kind k = k pa := by simp [State.translated, h]

theorem State.translated_error {va : Dword} {kind : Access} {f : XlateFail} (h : s.translate va kind = .error f)
    (k : Word → Result) : s.translated va kind k = s.raiseAt va (f.exc kind) := by simp [State.translated, h]

theorem State.load_of {va : Dword} {n : Nat} {pa : Word} (h : s.reaches va n .load pa) (k : Word → Result) :
    s.load va n k = k pa := by simp [State.load, State.aligned, h.1, State.translated_ok h.2]

theorem State.store_of {va : Dword} {n : Nat} {pa : Word} (h : s.reaches va n .store pa) (k : Word → Result) :
    s.store va n k = k pa := by simp [State.store, State.aligned, h.1, State.translated_ok h.2]

/-- A misaligned access never goes on (20_memory R85). -/
theorem State.aligned_not {va : Dword} {n : Nat} {kind : Access} (h : va.toNat % n ≠ 0) (k : Result) :
    s.aligned va n kind k = s.raiseAt va kind.addressError := by simp [State.aligned, h]

/-- Everything a translation can answer. -/
theorem State.translated_next {va : Dword} {kind : Access} {k : Word → Result}
    (h : s.translated va kind k = .next t) :
    (∃ pa, s.translate va kind = .ok pa ∧ k pa = .next t) ∨
      ∃ f, s.translate va kind = .error f ∧ t = (s.recordFaultAddress va).takeException (f.exc kind) := by
  unfold State.translated at h
  split at h
  · next pa hp => exact .inl ⟨pa, hp, h⟩
  · next f hf => exact .inr ⟨f, hf, by injection h with h; exact h.symm⟩

/-- Everything an aligned access can answer. -/
theorem State.aligned_next {va : Dword} {n : Nat} {kind : Access} {k : Result} (h : s.aligned va n kind k = .next t) :
    (va.toNat % n = 0 ∧ k = .next t) ∨
      (va.toNat % n ≠ 0 ∧ t = (s.recordFaultAddress va).takeException kind.addressError) := by
  unfold State.aligned at h
  split at h
  · next e => exact .inl ⟨e, h⟩
  · next e => exact .inr ⟨e, by injection h with h; exact h.symm⟩

/-- Everything a load can answer: it reaches the bus and goes on, or it takes an exception. -/
theorem State.load_next {va : Dword} {n : Nat} {k : Word → Result} (h : s.load va n k = .next t) :
    (∃ pa, s.reaches va n .load pa ∧ k pa = .next t) ∨
      ∃ e, t = (s.recordFaultAddress va).takeException e := by
  rcases State.aligned_next h with ⟨ha, h⟩ | ⟨_, h⟩
  · rcases State.translated_next h with ⟨pa, hp, h⟩ | ⟨f, _, h⟩
    · exact .inl ⟨pa, ⟨ha, hp⟩, h⟩
    · exact .inr ⟨_, h⟩
  · exact .inr ⟨_, h⟩

/-- Everything a store can answer: it reaches the bus and goes on, or it takes an exception. -/
theorem State.store_next {va : Dword} {n : Nat} {k : Word → Result} (h : s.store va n k = .next t) :
    (∃ pa, s.reaches va n .store pa ∧ k pa = .next t) ∨
      ∃ e, t = (s.recordFaultAddress va).takeException e := by
  rcases State.aligned_next h with ⟨ha, h⟩ | ⟨_, h⟩
  · rcases State.translated_next h with ⟨pa, hp, h⟩ | ⟨f, _, h⟩
    · exact .inl ⟨pa, ⟨ha, hp⟩, h⟩
    · exact .inr ⟨_, h⟩
  · exact .inr ⟨_, h⟩

/-- Everything a check can answer: it goes on, or it takes its exception. -/
theorem State.check64_next {k : Result} (h : s.check64 k = .next t) :
    (s.ops64 = true ∧ k = .next t) ∨ t = s.takeException .ri := by
  unfold State.check64 at h
  split at h
  · next e => exact .inl ⟨e, h⟩
  · exact .inr (by injection h with h; exact h.symm)

theorem State.checkCop0_next {k : Result} (h : s.checkCop0 k = .next t) :
    ((s.kernelMode || s.cu0) = true ∧ k = .next t) ∨ t = s.takeException (.cpu 0#2) := by
  unfold State.checkCop0 at h
  split at h
  · next e => exact .inl ⟨e, h⟩
  · exact .inr (by injection h with h; exact h.symm)

theorem State.checkCop1_next {k : Result} (h : s.checkCop1 k = .next t) :
    (s.cu1 = true ∧ k = .next t) ∨ t = s.takeException (.cpu 1#2) := by
  unfold State.checkCop1 at h
  split at h
  · next e => exact .inl ⟨e, h⟩
  · exact .inr (by injection h with h; exact h.symm)

theorem State.checkCop2_next {k : Result} (h : s.checkCop2 k = .next t) :
    (s.cu2 = true ∧ k = .next t) ∨ t = s.takeException (.cpu 2#2) := by
  unfold State.checkCop2 at h
  split at h
  · next e => exact .inl ⟨e, h⟩
  · exact .inr (by injection h with h; exact h.symm)

/-- A checked operation that does not overflow writes. -/
theorem State.checked_next {ov : Bool} {r : Reg} {v : Dword} (h : s.checked ov r v = .next t) :
    (ov = false ∧ t = s.setX r v) ∨ (ov = true ∧ t = s.takeException .ov) := by
  unfold State.checked at h
  split at h <;> injection h with h <;> simp_all

theorem State.trapIf_next {c : Bool} (h : s.trapIf c = .next t) :
    (c = false ∧ t = s) ∨ (c = true ∧ t = s.takeException .tr) := by
  unfold State.trapIf at h
  split at h <;> injection h with h <;> simp_all

/-- Everything SC and SCD can answer. -/
theorem State.storeConditional_next {va : Dword} {n : Nat} {rt : Reg} {m : Word → State}
    (h : s.storeConditional va n rt m = .next t) :
    (s.llbit = true ∧ (∃ pa, s.reaches va n .store pa ∧ t = (m pa).setX rt 1#64)) ∨
      (s.llbit = false ∧ t = s.setX rt 0#64) ∨ ∃ e, t = (s.recordFaultAddress va).takeException e := by
  rcases State.aligned_next h with ⟨ha, h⟩ | ⟨_, h⟩
  · split at h
    · next hl =>
      rcases State.translated_next h with ⟨pa, hp, h⟩ | ⟨f, _, h⟩
      · exact .inl ⟨hl, pa, ⟨ha, hp⟩, by injection h with h; exact h.symm⟩
      · exact .inr (.inr ⟨_, h⟩)
    · next hl => exact .inr (.inl ⟨by simpa using hl, by injection h with h; exact h.symm⟩)
  · exact .inr (.inr ⟨_, h⟩)

/-! ### Floating-point signals (47_fpu_arith R432) -/

/-- A signal that does not trap goes on with the cause and flag bits added. -/
theorem State.signal_of {e : FpExc} (h : fpTraps s.fcr31 e = false) (k : State → Result) :
    s.signal e k = k (s.setFcr31 (fcrAddFlags (fcrAddCause s.fcr31 e) e)) := by simp [State.signal, h]

/-- Everything a floating-point operation can answer. -/
theorem State.fpSignal_next {e : FpExc} {k : State → Result} (h : s.fpSignal e k = .next t) :
    (s.cu1 = true ∧ fpTraps (fcrClearCause s.fcr31) e = false ∧
        k (s.setFcr31 (fcrAddFlags (fcrAddCause (fcrClearCause s.fcr31) e) e)) = .next t) ∨
      (s.cu1 = true ∧ fpTraps (fcrClearCause s.fcr31) e = true ∧
        t = (s.setFcr31 (fcrAddCause (fcrClearCause s.fcr31) e)).takeException .fpe) ∨
      t = s.takeException (.cpu 1#2) := by
  rcases State.checkCop1_next h with ⟨hc, h⟩ | h
  · unfold State.signal at h
    split at h
    · next ht => exact .inr (.inl ⟨hc, ht, by injection h with h; exact h.symm⟩)
    · next ht => exact .inl ⟨hc, by simpa using ht, h⟩
  · exact .inr (.inr h)

end Sys2Proof.Machine
end

