-- ==== Sys2Proof/Laws/PerInstr.lean ====
section
/-! SUPPORT. Laws/PerInstr.lean: the statements made for each instruction by itself. -/

namespace Sys2Proof.Laws

/-- The encoder's word belongs to the instruction's row of spec/opcode_table.json, and the encoder writes 0 in
every bit the decoder does not look at (30_encoding R147). -/
def EncodesRow.Statement (i : Instr) : Prop := i.row.holds (encode i) = true ∧ encode i &&& i.row.ignored = 0#32

/-- The statement from the two masked words. -/
theorem EncodesRow.Statement.of {i : Instr} {b z : Word} (h : encode i &&& i.row.mask = b) (hb : b = i.row.bits)
    (k : encode i &&& i.row.ignored = z) (hz : z = 0#32) : EncodesRow.Statement i :=
  ⟨by rw [OpcodeRow.holds, h, hb, beq_self_eq_true], k.trans hz⟩

theorem EncodesRow.nop : EncodesRow.Statement .nop :=
  ⟨by decide, by decide⟩
theorem EncodesRow.add (rd : Reg) (rs : Reg) (rt : Reg) : EncodesRow.Statement (.add rd rs rt) :=
  .of (packR_and_FC00003F ..) rfl (packR_and_000007C0 ..) rfl
theorem EncodesRow.addu (rd : Reg) (rs : Reg) (rt : Reg) : EncodesRow.Statement (.addu rd rs rt) :=
  .of (packR_and_FC00003F ..) rfl (packR_and_000007C0 ..) rfl
theorem EncodesRow.sub (rd : Reg) (rs : Reg) (rt : Reg) : EncodesRow.Statement (.sub rd rs rt) :=
  .of (packR_and_FC00003F ..) rfl (packR_and_000007C0 ..) rfl
theorem EncodesRow.subu (rd : Reg) (rs : Reg) (rt : Reg) : EncodesRow.Statement (.subu rd rs rt) :=
  .of (packR_and_FC00003F ..) rfl (packR_and_000007C0 ..) rfl
theorem EncodesRow.and (rd : Reg) (rs : Reg) (rt : Reg) : EncodesRow.Statement (.and rd rs rt) :=
  .of (packR_and_FC00003F ..) rfl (packR_and_000007C0 ..) rfl
theorem EncodesRow.or (rd : Reg) (rs : Reg) (rt : Reg) : EncodesRow.Statement (.or rd rs rt) :=
  .of (packR_and_FC00003F ..) rfl (packR_and_000007C0 ..) rfl
theorem EncodesRow.xor (rd : Reg) (rs : Reg) (rt : Reg) : EncodesRow.Statement (.xor rd rs rt) :=
  .of (packR_and_FC00003F ..) rfl (packR_and_000007C0 ..) rfl
theorem EncodesRow.nor (rd : Reg) (rs : Reg) (rt : Reg) : EncodesRow.Statement (.nor rd rs rt) :=
  .of (packR_and_FC00003F ..) rfl (packR_and_000007C0 ..) rfl
theorem EncodesRow.slt (rd : Reg) (rs : Reg) (rt : Reg) : EncodesRow.Statement (.slt rd rs rt) :=
  .of (packR_and_FC00003F ..) rfl (packR_and_000007C0 ..) rfl
theorem EncodesRow.sltu (rd : Reg) (rs : Reg) (rt : Reg) : EncodesRow.Statement (.sltu rd rs rt) :=
  .of (packR_and_FC00003F ..) rfl (packR_and_000007C0 ..) rfl
theorem EncodesRow.dadd (rd : Reg) (rs : Reg) (rt : Reg) : EncodesRow.Statement (.dadd rd rs rt) :=
  .of (packR_and_FC00003F ..) rfl (packR_and_000007C0 ..) rfl
theorem EncodesRow.daddu (rd : Reg) (rs : Reg) (rt : Reg) : EncodesRow.Statement (.daddu rd rs rt) :=
  .of (packR_and_FC00003F ..) rfl (packR_and_000007C0 ..) rfl
theorem EncodesRow.dsub (rd : Reg) (rs : Reg) (rt : Reg) : EncodesRow.Statement (.dsub rd rs rt) :=
  .of (packR_and_FC00003F ..) rfl (packR_and_000007C0 ..) rfl
theorem EncodesRow.dsubu (rd : Reg) (rs : Reg) (rt : Reg) : EncodesRow.Statement (.dsubu rd rs rt) :=
  .of (packR_and_FC00003F ..) rfl (packR_and_000007C0 ..) rfl
theorem EncodesRow.addi (rt : Reg) (rs : Reg) (imm : Imm16) : EncodesRow.Statement (.addi rt rs imm) :=
  .of (packI_and_FC000000 ..) rfl (packI_and_00000000 ..) rfl
theorem EncodesRow.addiu (rt : Reg) (rs : Reg) (imm : Imm16) : EncodesRow.Statement (.addiu rt rs imm) :=
  .of (packI_and_FC000000 ..) rfl (packI_and_00000000 ..) rfl
theorem EncodesRow.slti (rt : Reg) (rs : Reg) (imm : Imm16) : EncodesRow.Statement (.slti rt rs imm) :=
  .of (packI_and_FC000000 ..) rfl (packI_and_00000000 ..) rfl
theorem EncodesRow.sltiu (rt : Reg) (rs : Reg) (imm : Imm16) : EncodesRow.Statement (.sltiu rt rs imm) :=
  .of (packI_and_FC000000 ..) rfl (packI_and_00000000 ..) rfl
theorem EncodesRow.andi (rt : Reg) (rs : Reg) (imm : Imm16) : EncodesRow.Statement (.andi rt rs imm) :=
  .of (packI_and_FC000000 ..) rfl (packI_and_00000000 ..) rfl
theorem EncodesRow.ori (rt : Reg) (rs : Reg) (imm : Imm16) : EncodesRow.Statement (.ori rt rs imm) :=
  .of (packI_and_FC000000 ..) rfl (packI_and_00000000 ..) rfl
theorem EncodesRow.xori (rt : Reg) (rs : Reg) (imm : Imm16) : EncodesRow.Statement (.xori rt rs imm) :=
  .of (packI_and_FC000000 ..) rfl (packI_and_00000000 ..) rfl
theorem EncodesRow.lui (rt : Reg) (imm : Imm16) : EncodesRow.Statement (.lui rt imm) :=
  .of (packI_and_FC000000 ..) rfl (packI_and_03E00000 ..) rfl
theorem EncodesRow.daddi (rt : Reg) (rs : Reg) (imm : Imm16) : EncodesRow.Statement (.daddi rt rs imm) :=
  .of (packI_and_FC000000 ..) rfl (packI_and_00000000 ..) rfl
theorem EncodesRow.daddiu (rt : Reg) (rs : Reg) (imm : Imm16) : EncodesRow.Statement (.daddiu rt rs imm) :=
  .of (packI_and_FC000000 ..) rfl (packI_and_00000000 ..) rfl
theorem EncodesRow.sll (rd : Reg) (rt : Reg) (sa : BitVec 5) : EncodesRow.Statement (.sll rd rt sa) :=
  .of (packR_and_FC00003F ..) rfl (packR_and_03E00000 ..) rfl
theorem EncodesRow.srl (rd : Reg) (rt : Reg) (sa : BitVec 5) : EncodesRow.Statement (.srl rd rt sa) :=
  .of (packR_and_FC00003F ..) rfl (packR_and_03E00000 ..) rfl
theorem EncodesRow.sra (rd : Reg) (rt : Reg) (sa : BitVec 5) : EncodesRow.Statement (.sra rd rt sa) :=
  .of (packR_and_FC00003F ..) rfl (packR_and_03E00000 ..) rfl
theorem EncodesRow.sllv (rd : Reg) (rt : Reg) (rs : Reg) : EncodesRow.Statement (.sllv rd rt rs) :=
  .of (packR_and_FC00003F ..) rfl (packR_and_000007C0 ..) rfl
theorem EncodesRow.srlv (rd : Reg) (rt : Reg) (rs : Reg) : EncodesRow.Statement (.srlv rd rt rs) :=
  .of (packR_and_FC00003F ..) rfl (packR_and_000007C0 ..) rfl
theorem EncodesRow.srav (rd : Reg) (rt : Reg) (rs : Reg) : EncodesRow.Statement (.srav rd rt rs) :=
  .of (packR_and_FC00003F ..) rfl (packR_and_000007C0 ..) rfl
theorem EncodesRow.dsll (rd : Reg) (rt : Reg) (sa : BitVec 5) : EncodesRow.Statement (.dsll rd rt sa) :=
  .of (packR_and_FC00003F ..) rfl (packR_and_03E00000 ..) rfl
theorem EncodesRow.dsrl (rd : Reg) (rt : Reg) (sa : BitVec 5) : EncodesRow.Statement (.dsrl rd rt sa) :=
  .of (packR_and_FC00003F ..) rfl (packR_and_03E00000 ..) rfl
theorem EncodesRow.dsra (rd : Reg) (rt : Reg) (sa : BitVec 5) : EncodesRow.Statement (.dsra rd rt sa) :=
  .of (packR_and_FC00003F ..) rfl (packR_and_03E00000 ..) rfl
theorem EncodesRow.dsllv (rd : Reg) (rt : Reg) (rs : Reg) : EncodesRow.Statement (.dsllv rd rt rs) :=
  .of (packR_and_FC00003F ..) rfl (packR_and_000007C0 ..) rfl
theorem EncodesRow.dsrlv (rd : Reg) (rt : Reg) (rs : Reg) : EncodesRow.Statement (.dsrlv rd rt rs) :=
  .of (packR_and_FC00003F ..) rfl (packR_and_000007C0 ..) rfl
theorem EncodesRow.dsrav (rd : Reg) (rt : Reg) (rs : Reg) : EncodesRow.Statement (.dsrav rd rt rs) :=
  .of (packR_and_FC00003F ..) rfl (packR_and_000007C0 ..) rfl
theorem EncodesRow.dsll32 (rd : Reg) (rt : Reg) (sa : BitVec 5) : EncodesRow.Statement (.dsll32 rd rt sa) :=
  .of (packR_and_FC00003F ..) rfl (packR_and_03E00000 ..) rfl
theorem EncodesRow.dsrl32 (rd : Reg) (rt : Reg) (sa : BitVec 5) : EncodesRow.Statement (.dsrl32 rd rt sa) :=
  .of (packR_and_FC00003F ..) rfl (packR_and_03E00000 ..) rfl
theorem EncodesRow.dsra32 (rd : Reg) (rt : Reg) (sa : BitVec 5) : EncodesRow.Statement (.dsra32 rd rt sa) :=
  .of (packR_and_FC00003F ..) rfl (packR_and_03E00000 ..) rfl
theorem EncodesRow.mult (rs : Reg) (rt : Reg) : EncodesRow.Statement (.mult rs rt) :=
  .of (packR_and_FC00003F ..) rfl (packR_and_0000FFC0 ..) rfl
theorem EncodesRow.multu (rs : Reg) (rt : Reg) : EncodesRow.Statement (.multu rs rt) :=
  .of (packR_and_FC00003F ..) rfl (packR_and_0000FFC0 ..) rfl
theorem EncodesRow.div (rs : Reg) (rt : Reg) : EncodesRow.Statement (.div rs rt) :=
  .of (packR_and_FC00003F ..) rfl (packR_and_0000FFC0 ..) rfl
theorem EncodesRow.divu (rs : Reg) (rt : Reg) : EncodesRow.Statement (.divu rs rt) :=
  .of (packR_and_FC00003F ..) rfl (packR_and_0000FFC0 ..) rfl
theorem EncodesRow.dmult (rs : Reg) (rt : Reg) : EncodesRow.Statement (.dmult rs rt) :=
  .of (packR_and_FC00003F ..) rfl (packR_and_0000FFC0 ..) rfl
theorem EncodesRow.dmultu (rs : Reg) (rt : Reg) : EncodesRow.Statement (.dmultu rs rt) :=
  .of (packR_and_FC00003F ..) rfl (packR_and_0000FFC0 ..) rfl
theorem EncodesRow.ddiv (rs : Reg) (rt : Reg) : EncodesRow.Statement (.ddiv rs rt) :=
  .of (packR_and_FC00003F ..) rfl (packR_and_0000FFC0 ..) rfl
theorem EncodesRow.ddivu (rs : Reg) (rt : Reg) : EncodesRow.Statement (.ddivu rs rt) :=
  .of (packR_and_FC00003F ..) rfl (packR_and_0000FFC0 ..) rfl
theorem EncodesRow.mfhi (rd : Reg) : EncodesRow.Statement (.mfhi rd) :=
  .of (packR_and_FC00003F ..) rfl (packR_and_03FF07C0 ..) rfl
theorem EncodesRow.mthi (rs : Reg) : EncodesRow.Statement (.mthi rs) :=
  .of (packR_and_FC00003F ..) rfl (packR_and_001FFFC0 ..) rfl
theorem EncodesRow.mflo (rd : Reg) : EncodesRow.Statement (.mflo rd) :=
  .of (packR_and_FC00003F ..) rfl (packR_and_03FF07C0 ..) rfl
theorem EncodesRow.mtlo (rs : Reg) : EncodesRow.Statement (.mtlo rs) :=
  .of (packR_and_FC00003F ..) rfl (packR_and_001FFFC0 ..) rfl
theorem EncodesRow.j (idx : BitVec 26) : EncodesRow.Statement (.j idx) :=
  .of (packJ_and_FC000000 ..) rfl (packJ_and_00000000 ..) rfl
theorem EncodesRow.jal (idx : BitVec 26) : EncodesRow.Statement (.jal idx) :=
  .of (packJ_and_FC000000 ..) rfl (packJ_and_00000000 ..) rfl
theorem EncodesRow.jr (rs : Reg) : EncodesRow.Statement (.jr rs) :=
  .of (packR_and_FC00003F ..) rfl (packR_and_001FFFC0 ..) rfl
theorem EncodesRow.jalr (rd : Reg) (rs : Reg) : EncodesRow.Statement (.jalr rd rs) :=
  .of (packR_and_FC00003F ..) rfl (packR_and_001F07C0 ..) rfl
theorem EncodesRow.beq (rs : Reg) (rt : Reg) (imm : Imm16) : EncodesRow.Statement (.beq rs rt imm) :=
  .of (packI_and_FC000000 ..) rfl (packI_and_00000000 ..) rfl
theorem EncodesRow.bne (rs : Reg) (rt : Reg) (imm : Imm16) : EncodesRow.Statement (.bne rs rt imm) :=
  .of (packI_and_FC000000 ..) rfl (packI_and_00000000 ..) rfl
theorem EncodesRow.blez (rs : Reg) (imm : Imm16) : EncodesRow.Statement (.blez rs imm) :=
  .of (packI_and_FC000000 ..) rfl (packI_and_001F0000 ..) rfl
theorem EncodesRow.bgtz (rs : Reg) (imm : Imm16) : EncodesRow.Statement (.bgtz rs imm) :=
  .of (packI_and_FC000000 ..) rfl (packI_and_001F0000 ..) rfl
theorem EncodesRow.beql (rs : Reg) (rt : Reg) (imm : Imm16) : EncodesRow.Statement (.beql rs rt imm) :=
  .of (packI_and_FC000000 ..) rfl (packI_and_00000000 ..) rfl
theorem EncodesRow.bnel (rs : Reg) (rt : Reg) (imm : Imm16) : EncodesRow.Statement (.bnel rs rt imm) :=
  .of (packI_and_FC000000 ..) rfl (packI_and_00000000 ..) rfl
theorem EncodesRow.blezl (rs : Reg) (imm : Imm16) : EncodesRow.Statement (.blezl rs imm) :=
  .of (packI_and_FC000000 ..) rfl (packI_and_001F0000 ..) rfl
theorem EncodesRow.bgtzl (rs : Reg) (imm : Imm16) : EncodesRow.Statement (.bgtzl rs imm) :=
  .of (packI_and_FC000000 ..) rfl (packI_and_001F0000 ..) rfl
theorem EncodesRow.bltz (rs : Reg) (imm : Imm16) : EncodesRow.Statement (.bltz rs imm) :=
  .of (packI_and_FC1F0000 ..) rfl (packI_and_00000000 ..) rfl
theorem EncodesRow.bgez (rs : Reg) (imm : Imm16) : EncodesRow.Statement (.bgez rs imm) :=
  .of (packI_and_FC1F0000 ..) rfl (packI_and_00000000 ..) rfl
theorem EncodesRow.bltzl (rs : Reg) (imm : Imm16) : EncodesRow.Statement (.bltzl rs imm) :=
  .of (packI_and_FC1F0000 ..) rfl (packI_and_00000000 ..) rfl
theorem EncodesRow.bgezl (rs : Reg) (imm : Imm16) : EncodesRow.Statement (.bgezl rs imm) :=
  .of (packI_and_FC1F0000 ..) rfl (packI_and_00000000 ..) rfl
theorem EncodesRow.bltzal (rs : Reg) (imm : Imm16) : EncodesRow.Statement (.bltzal rs imm) :=
  .of (packI_and_FC1F0000 ..) rfl (packI_and_00000000 ..) rfl
theorem EncodesRow.bgezal (rs : Reg) (imm : Imm16) : EncodesRow.Statement (.bgezal rs imm) :=
  .of (packI_and_FC1F0000 ..) rfl (packI_and_00000000 ..) rfl
theorem EncodesRow.bltzall (rs : Reg) (imm : Imm16) : EncodesRow.Statement (.bltzall rs imm) :=
  .of (packI_and_FC1F0000 ..) rfl (packI_and_00000000 ..) rfl
theorem EncodesRow.bgezall (rs : Reg) (imm : Imm16) : EncodesRow.Statement (.bgezall rs imm) :=
  .of (packI_and_FC1F0000 ..) rfl (packI_and_00000000 ..) rfl
theorem EncodesRow.lb (rt : Reg) (base : Reg) (imm : Imm16) : EncodesRow.Statement (.lb rt base imm) :=
  .of (packI_and_FC000000 ..) rfl (packI_and_00000000 ..) rfl
theorem EncodesRow.lbu (rt : Reg) (base : Reg) (imm : Imm16) : EncodesRow.Statement (.lbu rt base imm) :=
  .of (packI_and_FC000000 ..) rfl (packI_and_00000000 ..) rfl
theorem EncodesRow.lh (rt : Reg) (base : Reg) (imm : Imm16) : EncodesRow.Statement (.lh rt base imm) :=
  .of (packI_and_FC000000 ..) rfl (packI_and_00000000 ..) rfl
theorem EncodesRow.lhu (rt : Reg) (base : Reg) (imm : Imm16) : EncodesRow.Statement (.lhu rt base imm) :=
  .of (packI_and_FC000000 ..) rfl (packI_and_00000000 ..) rfl
theorem EncodesRow.lw (rt : Reg) (base : Reg) (imm : Imm16) : EncodesRow.Statement (.lw rt base imm) :=
  .of (packI_and_FC000000 ..) rfl (packI_and_00000000 ..) rfl
theorem EncodesRow.lwu (rt : Reg) (base : Reg) (imm : Imm16) : EncodesRow.Statement (.lwu rt base imm) :=
  .of (packI_and_FC000000 ..) rfl (packI_and_00000000 ..) rfl
theorem EncodesRow.ld (rt : Reg) (base : Reg) (imm : Imm16) : EncodesRow.Statement (.ld rt base imm) :=
  .of (packI_and_FC000000 ..) rfl (packI_and_00000000 ..) rfl
theorem EncodesRow.lwl (rt : Reg) (base : Reg) (imm : Imm16) : EncodesRow.Statement (.lwl rt base imm) :=
  .of (packI_and_FC000000 ..) rfl (packI_and_00000000 ..) rfl
theorem EncodesRow.lwr (rt : Reg) (base : Reg) (imm : Imm16) : EncodesRow.Statement (.lwr rt base imm) :=
  .of (packI_and_FC000000 ..) rfl (packI_and_00000000 ..) rfl
theorem EncodesRow.ldl (rt : Reg) (base : Reg) (imm : Imm16) : EncodesRow.Statement (.ldl rt base imm) :=
  .of (packI_and_FC000000 ..) rfl (packI_and_00000000 ..) rfl
theorem EncodesRow.ldr (rt : Reg) (base : Reg) (imm : Imm16) : EncodesRow.Statement (.ldr rt base imm) :=
  .of (packI_and_FC000000 ..) rfl (packI_and_00000000 ..) rfl
theorem EncodesRow.sb (rt : Reg) (base : Reg) (imm : Imm16) : EncodesRow.Statement (.sb rt base imm) :=
  .of (packI_and_FC000000 ..) rfl (packI_and_00000000 ..) rfl
theorem EncodesRow.sh (rt : Reg) (base : Reg) (imm : Imm16) : EncodesRow.Statement (.sh rt base imm) :=
  .of (packI_and_FC000000 ..) rfl (packI_and_00000000 ..) rfl
theorem EncodesRow.sw (rt : Reg) (base : Reg) (imm : Imm16) : EncodesRow.Statement (.sw rt base imm) :=
  .of (packI_and_FC000000 ..) rfl (packI_and_00000000 ..) rfl
theorem EncodesRow.sd (rt : Reg) (base : Reg) (imm : Imm16) : EncodesRow.Statement (.sd rt base imm) :=
  .of (packI_and_FC000000 ..) rfl (packI_and_00000000 ..) rfl
theorem EncodesRow.swl (rt : Reg) (base : Reg) (imm : Imm16) : EncodesRow.Statement (.swl rt base imm) :=
  .of (packI_and_FC000000 ..) rfl (packI_and_00000000 ..) rfl
theorem EncodesRow.swr (rt : Reg) (base : Reg) (imm : Imm16) : EncodesRow.Statement (.swr rt base imm) :=
  .of (packI_and_FC000000 ..) rfl (packI_and_00000000 ..) rfl
theorem EncodesRow.sdl (rt : Reg) (base : Reg) (imm : Imm16) : EncodesRow.Statement (.sdl rt base imm) :=
  .of (packI_and_FC000000 ..) rfl (packI_and_00000000 ..) rfl
theorem EncodesRow.sdr (rt : Reg) (base : Reg) (imm : Imm16) : EncodesRow.Statement (.sdr rt base imm) :=
  .of (packI_and_FC000000 ..) rfl (packI_and_00000000 ..) rfl
theorem EncodesRow.ll (rt : Reg) (base : Reg) (imm : Imm16) : EncodesRow.Statement (.ll rt base imm) :=
  .of (packI_and_FC000000 ..) rfl (packI_and_00000000 ..) rfl
theorem EncodesRow.lld (rt : Reg) (base : Reg) (imm : Imm16) : EncodesRow.Statement (.lld rt base imm) :=
  .of (packI_and_FC000000 ..) rfl (packI_and_00000000 ..) rfl
theorem EncodesRow.sc (rt : Reg) (base : Reg) (imm : Imm16) : EncodesRow.Statement (.sc rt base imm) :=
  .of (packI_and_FC000000 ..) rfl (packI_and_00000000 ..) rfl
theorem EncodesRow.scd (rt : Reg) (base : Reg) (imm : Imm16) : EncodesRow.Statement (.scd rt base imm) :=
  .of (packI_and_FC000000 ..) rfl (packI_and_00000000 ..) rfl
theorem EncodesRow.lwc1 (ft : FReg) (base : Reg) (imm : Imm16) : EncodesRow.Statement (.lwc1 ft base imm) :=
  .of (packI_and_FC000000 ..) rfl (packI_and_00000000 ..) rfl
theorem EncodesRow.ldc1 (ft : FReg) (base : Reg) (imm : Imm16) : EncodesRow.Statement (.ldc1 ft base imm) :=
  .of (packI_and_FC000000 ..) rfl (packI_and_00000000 ..) rfl
theorem EncodesRow.swc1 (ft : FReg) (base : Reg) (imm : Imm16) : EncodesRow.Statement (.swc1 ft base imm) :=
  .of (packI_and_FC000000 ..) rfl (packI_and_00000000 ..) rfl
theorem EncodesRow.sdc1 (ft : FReg) (base : Reg) (imm : Imm16) : EncodesRow.Statement (.sdc1 ft base imm) :=
  .of (packI_and_FC000000 ..) rfl (packI_and_00000000 ..) rfl
theorem EncodesRow.syscall (code : BitVec 20) : EncodesRow.Statement (.syscall code) :=
  .of (packCode20_and_FC00003F ..) rfl (packCode20_and_00000000 ..) rfl
theorem EncodesRow.break_ (code : BitVec 20) : EncodesRow.Statement (.break_ code) :=
  .of (packCode20_and_FC00003F ..) rfl (packCode20_and_00000000 ..) rfl
theorem EncodesRow.sync : EncodesRow.Statement .sync :=
  .of (packR_and_FC00003F ..) rfl (packR_and_03FFFFC0 ..) rfl
theorem EncodesRow.cache (op : BitVec 5) (base : Reg) (imm : Imm16) : EncodesRow.Statement (.cache op base imm) :=
  .of (packI_and_FC000000 ..) rfl (packI_and_00000000 ..) rfl
theorem EncodesRow.tge (rs : Reg) (rt : Reg) (code : BitVec 10) : EncodesRow.Statement (.tge rs rt code) :=
  .of (packCode10_and_FC00003F ..) rfl (packCode10_and_00000000 ..) rfl
theorem EncodesRow.tgeu (rs : Reg) (rt : Reg) (code : BitVec 10) : EncodesRow.Statement (.tgeu rs rt code) :=
  .of (packCode10_and_FC00003F ..) rfl (packCode10_and_00000000 ..) rfl
theorem EncodesRow.tlt (rs : Reg) (rt : Reg) (code : BitVec 10) : EncodesRow.Statement (.tlt rs rt code) :=
  .of (packCode10_and_FC00003F ..) rfl (packCode10_and_00000000 ..) rfl
theorem EncodesRow.tltu (rs : Reg) (rt : Reg) (code : BitVec 10) : EncodesRow.Statement (.tltu rs rt code) :=
  .of (packCode10_and_FC00003F ..) rfl (packCode10_and_00000000 ..) rfl
theorem EncodesRow.teq (rs : Reg) (rt : Reg) (code : BitVec 10) : EncodesRow.Statement (.teq rs rt code) :=
  .of (packCode10_and_FC00003F ..) rfl (packCode10_and_00000000 ..) rfl
theorem EncodesRow.tne (rs : Reg) (rt : Reg) (code : BitVec 10) : EncodesRow.Statement (.tne rs rt code) :=
  .of (packCode10_and_FC00003F ..) rfl (packCode10_and_00000000 ..) rfl
theorem EncodesRow.tgei (rs : Reg) (imm : Imm16) : EncodesRow.Statement (.tgei rs imm) :=
  .of (packI_and_FC1F0000 ..) rfl (packI_and_00000000 ..) rfl
theorem EncodesRow.tgeiu (rs : Reg) (imm : Imm16) : EncodesRow.Statement (.tgeiu rs imm) :=
  .of (packI_and_FC1F0000 ..) rfl (packI_and_00000000 ..) rfl
theorem EncodesRow.tlti (rs : Reg) (imm : Imm16) : EncodesRow.Statement (.tlti rs imm) :=
  .of (packI_and_FC1F0000 ..) rfl (packI_and_00000000 ..) rfl
theorem EncodesRow.tltiu (rs : Reg) (imm : Imm16) : EncodesRow.Statement (.tltiu rs imm) :=
  .of (packI_and_FC1F0000 ..) rfl (packI_and_00000000 ..) rfl
theorem EncodesRow.teqi (rs : Reg) (imm : Imm16) : EncodesRow.Statement (.teqi rs imm) :=
  .of (packI_and_FC1F0000 ..) rfl (packI_and_00000000 ..) rfl
theorem EncodesRow.tnei (rs : Reg) (imm : Imm16) : EncodesRow.Statement (.tnei rs imm) :=
  .of (packI_and_FC1F0000 ..) rfl (packI_and_00000000 ..) rfl
theorem EncodesRow.cop2 (code : BitVec 26) : EncodesRow.Statement (.cop2 code) :=
  .of (packJ_and_FC000000 ..) rfl (packJ_and_00000000 ..) rfl
theorem EncodesRow.mfc0 (rt : Reg) (rd : Reg) : EncodesRow.Statement (.mfc0 rt rd) :=
  .of (packR_and_FFE00000 ..) rfl (packR_and_000007FF ..) rfl
theorem EncodesRow.dmfc0 (rt : Reg) (rd : Reg) : EncodesRow.Statement (.dmfc0 rt rd) :=
  .of (packR_and_FFE00000 ..) rfl (packR_and_000007FF ..) rfl
theorem EncodesRow.mtc0 (rt : Reg) (rd : Reg) : EncodesRow.Statement (.mtc0 rt rd) :=
  .of (packR_and_FFE00000 ..) rfl (packR_and_000007FF ..) rfl
theorem EncodesRow.dmtc0 (rt : Reg) (rd : Reg) : EncodesRow.Statement (.dmtc0 rt rd) :=
  .of (packR_and_FFE00000 ..) rfl (packR_and_000007FF ..) rfl
theorem EncodesRow.tlbr : EncodesRow.Statement .tlbr :=
  .of (packR_and_FE00003F ..) rfl (packR_and_01FFFFC0 ..) rfl
theorem EncodesRow.tlbwi : EncodesRow.Statement .tlbwi :=
  .of (packR_and_FE00003F ..) rfl (packR_and_01FFFFC0 ..) rfl
theorem EncodesRow.tlbwr : EncodesRow.Statement .tlbwr :=
  .of (packR_and_FE00003F ..) rfl (packR_and_01FFFFC0 ..) rfl
theorem EncodesRow.tlbp : EncodesRow.Statement .tlbp :=
  .of (packR_and_FE00003F ..) rfl (packR_and_01FFFFC0 ..) rfl
theorem EncodesRow.eret : EncodesRow.Statement .eret :=
  .of (packR_and_FE00003F ..) rfl (packR_and_01FFFFC0 ..) rfl
theorem EncodesRow.mfc1 (rt : Reg) (fs : FReg) : EncodesRow.Statement (.mfc1 rt fs) :=
  .of (packR_and_FFE00000 ..) rfl (packR_and_000007FF ..) rfl
theorem EncodesRow.dmfc1 (rt : Reg) (fs : FReg) : EncodesRow.Statement (.dmfc1 rt fs) :=
  .of (packR_and_FFE00000 ..) rfl (packR_and_000007FF ..) rfl
theorem EncodesRow.cfc1 (rt : Reg) (fs : FReg) : EncodesRow.Statement (.cfc1 rt fs) :=
  .of (packR_and_FFE00000 ..) rfl (packR_and_000007FF ..) rfl
theorem EncodesRow.mtc1 (rt : Reg) (fs : FReg) : EncodesRow.Statement (.mtc1 rt fs) :=
  .of (packR_and_FFE00000 ..) rfl (packR_and_000007FF ..) rfl
theorem EncodesRow.dmtc1 (rt : Reg) (fs : FReg) : EncodesRow.Statement (.dmtc1 rt fs) :=
  .of (packR_and_FFE00000 ..) rfl (packR_and_000007FF ..) rfl
theorem EncodesRow.ctc1 (rt : Reg) (fs : FReg) : EncodesRow.Statement (.ctc1 rt fs) :=
  .of (packR_and_FFE00000 ..) rfl (packR_and_000007FF ..) rfl
theorem EncodesRow.bc1f (imm : Imm16) : EncodesRow.Statement (.bc1f imm) :=
  .of (packI_and_FFFF0000 ..) rfl (packI_and_00000000 ..) rfl
theorem EncodesRow.bc1t (imm : Imm16) : EncodesRow.Statement (.bc1t imm) :=
  .of (packI_and_FFFF0000 ..) rfl (packI_and_00000000 ..) rfl
theorem EncodesRow.bc1fl (imm : Imm16) : EncodesRow.Statement (.bc1fl imm) :=
  .of (packI_and_FFFF0000 ..) rfl (packI_and_00000000 ..) rfl
theorem EncodesRow.bc1tl (imm : Imm16) : EncodesRow.Statement (.bc1tl imm) :=
  .of (packI_and_FFFF0000 ..) rfl (packI_and_00000000 ..) rfl
theorem EncodesRow.addS (fd : FReg) (fs : FReg) (ft : FReg) : EncodesRow.Statement (.addS fd fs ft) :=
  .of (packR_and_FFE0003F ..) rfl (packR_and_00000000 ..) rfl
theorem EncodesRow.addD (fd : FReg) (fs : FReg) (ft : FReg) : EncodesRow.Statement (.addD fd fs ft) :=
  .of (packR_and_FFE0003F ..) rfl (packR_and_00000000 ..) rfl
theorem EncodesRow.subS (fd : FReg) (fs : FReg) (ft : FReg) : EncodesRow.Statement (.subS fd fs ft) :=
  .of (packR_and_FFE0003F ..) rfl (packR_and_00000000 ..) rfl
theorem EncodesRow.subD (fd : FReg) (fs : FReg) (ft : FReg) : EncodesRow.Statement (.subD fd fs ft) :=
  .of (packR_and_FFE0003F ..) rfl (packR_and_00000000 ..) rfl
theorem EncodesRow.mulS (fd : FReg) (fs : FReg) (ft : FReg) : EncodesRow.Statement (.mulS fd fs ft) :=
  .of (packR_and_FFE0003F ..) rfl (packR_and_00000000 ..) rfl
theorem EncodesRow.mulD (fd : FReg) (fs : FReg) (ft : FReg) : EncodesRow.Statement (.mulD fd fs ft) :=
  .of (packR_and_FFE0003F ..) rfl (packR_and_00000000 ..) rfl
theorem EncodesRow.divS (fd : FReg) (fs : FReg) (ft : FReg) : EncodesRow.Statement (.divS fd fs ft) :=
  .of (packR_and_FFE0003F ..) rfl (packR_and_00000000 ..) rfl
theorem EncodesRow.divD (fd : FReg) (fs : FReg) (ft : FReg) : EncodesRow.Statement (.divD fd fs ft) :=
  .of (packR_and_FFE0003F ..) rfl (packR_and_00000000 ..) rfl
theorem EncodesRow.sqrtS (fd : FReg) (fs : FReg) : EncodesRow.Statement (.sqrtS fd fs) :=
  .of (packR_and_FFE0003F ..) rfl (packR_and_001F0000 ..) rfl
theorem EncodesRow.sqrtD (fd : FReg) (fs : FReg) : EncodesRow.Statement (.sqrtD fd fs) :=
  .of (packR_and_FFE0003F ..) rfl (packR_and_001F0000 ..) rfl
theorem EncodesRow.absS (fd : FReg) (fs : FReg) : EncodesRow.Statement (.absS fd fs) :=
  .of (packR_and_FFE0003F ..) rfl (packR_and_001F0000 ..) rfl
theorem EncodesRow.absD (fd : FReg) (fs : FReg) : EncodesRow.Statement (.absD fd fs) :=
  .of (packR_and_FFE0003F ..) rfl (packR_and_001F0000 ..) rfl
theorem EncodesRow.movS (fd : FReg) (fs : FReg) : EncodesRow.Statement (.movS fd fs) :=
  .of (packR_and_FFE0003F ..) rfl (packR_and_001F0000 ..) rfl
theorem EncodesRow.movD (fd : FReg) (fs : FReg) : EncodesRow.Statement (.movD fd fs) :=
  .of (packR_and_FFE0003F ..) rfl (packR_and_001F0000 ..) rfl
theorem EncodesRow.negS (fd : FReg) (fs : FReg) : EncodesRow.Statement (.negS fd fs) :=
  .of (packR_and_FFE0003F ..) rfl (packR_and_001F0000 ..) rfl
theorem EncodesRow.negD (fd : FReg) (fs : FReg) : EncodesRow.Statement (.negD fd fs) :=
  .of (packR_and_FFE0003F ..) rfl (packR_and_001F0000 ..) rfl
theorem EncodesRow.roundLS (fd : FReg) (fs : FReg) : EncodesRow.Statement (.roundLS fd fs) :=
  .of (packR_and_FFE0003F ..) rfl (packR_and_001F0000 ..) rfl
theorem EncodesRow.roundLD (fd : FReg) (fs : FReg) : EncodesRow.Statement (.roundLD fd fs) :=
  .of (packR_and_FFE0003F ..) rfl (packR_and_001F0000 ..) rfl
theorem EncodesRow.truncLS (fd : FReg) (fs : FReg) : EncodesRow.Statement (.truncLS fd fs) :=
  .of (packR_and_FFE0003F ..) rfl (packR_and_001F0000 ..) rfl
theorem EncodesRow.truncLD (fd : FReg) (fs : FReg) : EncodesRow.Statement (.truncLD fd fs) :=
  .of (packR_and_FFE0003F ..) rfl (packR_and_001F0000 ..) rfl
theorem EncodesRow.ceilLS (fd : FReg) (fs : FReg) : EncodesRow.Statement (.ceilLS fd fs) :=
  .of (packR_and_FFE0003F ..) rfl (packR_and_001F0000 ..) rfl
theorem EncodesRow.ceilLD (fd : FReg) (fs : FReg) : EncodesRow.Statement (.ceilLD fd fs) :=
  .of (packR_and_FFE0003F ..) rfl (packR_and_001F0000 ..) rfl
theorem EncodesRow.floorLS (fd : FReg) (fs : FReg) : EncodesRow.Statement (.floorLS fd fs) :=
  .of (packR_and_FFE0003F ..) rfl (packR_and_001F0000 ..) rfl
theorem EncodesRow.floorLD (fd : FReg) (fs : FReg) : EncodesRow.Statement (.floorLD fd fs) :=
  .of (packR_and_FFE0003F ..) rfl (packR_and_001F0000 ..) rfl
theorem EncodesRow.roundWS (fd : FReg) (fs : FReg) : EncodesRow.Statement (.roundWS fd fs) :=
  .of (packR_and_FFE0003F ..) rfl (packR_and_001F0000 ..) rfl
theorem EncodesRow.roundWD (fd : FReg) (fs : FReg) : EncodesRow.Statement (.roundWD fd fs) :=
  .of (packR_and_FFE0003F ..) rfl (packR_and_001F0000 ..) rfl
theorem EncodesRow.truncWS (fd : FReg) (fs : FReg) : EncodesRow.Statement (.truncWS fd fs) :=
  .of (packR_and_FFE0003F ..) rfl (packR_and_001F0000 ..) rfl
theorem EncodesRow.truncWD (fd : FReg) (fs : FReg) : EncodesRow.Statement (.truncWD fd fs) :=
  .of (packR_and_FFE0003F ..) rfl (packR_and_001F0000 ..) rfl
theorem EncodesRow.ceilWS (fd : FReg) (fs : FReg) : EncodesRow.Statement (.ceilWS fd fs) :=
  .of (packR_and_FFE0003F ..) rfl (packR_and_001F0000 ..) rfl
theorem EncodesRow.ceilWD (fd : FReg) (fs : FReg) : EncodesRow.Statement (.ceilWD fd fs) :=
  .of (packR_and_FFE0003F ..) rfl (packR_and_001F0000 ..) rfl
theorem EncodesRow.floorWS (fd : FReg) (fs : FReg) : EncodesRow.Statement (.floorWS fd fs) :=
  .of (packR_and_FFE0003F ..) rfl (packR_and_001F0000 ..) rfl
theorem EncodesRow.floorWD (fd : FReg) (fs : FReg) : EncodesRow.Statement (.floorWD fd fs) :=
  .of (packR_and_FFE0003F ..) rfl (packR_and_001F0000 ..) rfl
theorem EncodesRow.cvtSD (fd : FReg) (fs : FReg) : EncodesRow.Statement (.cvtSD fd fs) :=
  .of (packR_and_FFE0003F ..) rfl (packR_and_001F0000 ..) rfl
theorem EncodesRow.cvtSW (fd : FReg) (fs : FReg) : EncodesRow.Statement (.cvtSW fd fs) :=
  .of (packR_and_FFE0003F ..) rfl (packR_and_001F0000 ..) rfl
theorem EncodesRow.cvtSL (fd : FReg) (fs : FReg) : EncodesRow.Statement (.cvtSL fd fs) :=
  .of (packR_and_FFE0003F ..) rfl (packR_and_001F0000 ..) rfl
theorem EncodesRow.cvtDS (fd : FReg) (fs : FReg) : EncodesRow.Statement (.cvtDS fd fs) :=
  .of (packR_and_FFE0003F ..) rfl (packR_and_001F0000 ..) rfl
theorem EncodesRow.cvtDW (fd : FReg) (fs : FReg) : EncodesRow.Statement (.cvtDW fd fs) :=
  .of (packR_and_FFE0003F ..) rfl (packR_and_001F0000 ..) rfl
theorem EncodesRow.cvtDL (fd : FReg) (fs : FReg) : EncodesRow.Statement (.cvtDL fd fs) :=
  .of (packR_and_FFE0003F ..) rfl (packR_and_001F0000 ..) rfl
theorem EncodesRow.cvtWS (fd : FReg) (fs : FReg) : EncodesRow.Statement (.cvtWS fd fs) :=
  .of (packR_and_FFE0003F ..) rfl (packR_and_001F0000 ..) rfl
theorem EncodesRow.cvtWD (fd : FReg) (fs : FReg) : EncodesRow.Statement (.cvtWD fd fs) :=
  .of (packR_and_FFE0003F ..) rfl (packR_and_001F0000 ..) rfl
theorem EncodesRow.cvtLS (fd : FReg) (fs : FReg) : EncodesRow.Statement (.cvtLS fd fs) :=
  .of (packR_and_FFE0003F ..) rfl (packR_and_001F0000 ..) rfl
theorem EncodesRow.cvtLD (fd : FReg) (fs : FReg) : EncodesRow.Statement (.cvtLD fd fs) :=
  .of (packR_and_FFE0003F ..) rfl (packR_and_001F0000 ..) rfl
theorem EncodesRow.cFS (fs : FReg) (ft : FReg) : EncodesRow.Statement (.cFS fs ft) :=
  .of (packR_and_FFE0003F ..) rfl (packR_and_000007C0 ..) rfl
theorem EncodesRow.cFD (fs : FReg) (ft : FReg) : EncodesRow.Statement (.cFD fs ft) :=
  .of (packR_and_FFE0003F ..) rfl (packR_and_000007C0 ..) rfl
theorem EncodesRow.cUnS (fs : FReg) (ft : FReg) : EncodesRow.Statement (.cUnS fs ft) :=
  .of (packR_and_FFE0003F ..) rfl (packR_and_000007C0 ..) rfl
theorem EncodesRow.cUnD (fs : FReg) (ft : FReg) : EncodesRow.Statement (.cUnD fs ft) :=
  .of (packR_and_FFE0003F ..) rfl (packR_and_000007C0 ..) rfl
theorem EncodesRow.cEqS (fs : FReg) (ft : FReg) : EncodesRow.Statement (.cEqS fs ft) :=
  .of (packR_and_FFE0003F ..) rfl (packR_and_000007C0 ..) rfl
theorem EncodesRow.cEqD (fs : FReg) (ft : FReg) : EncodesRow.Statement (.cEqD fs ft) :=
  .of (packR_and_FFE0003F ..) rfl (packR_and_000007C0 ..) rfl
theorem EncodesRow.cUeqS (fs : FReg) (ft : FReg) : EncodesRow.Statement (.cUeqS fs ft) :=
  .of (packR_and_FFE0003F ..) rfl (packR_and_000007C0 ..) rfl
theorem EncodesRow.cUeqD (fs : FReg) (ft : FReg) : EncodesRow.Statement (.cUeqD fs ft) :=
  .of (packR_and_FFE0003F ..) rfl (packR_and_000007C0 ..) rfl
theorem EncodesRow.cOltS (fs : FReg) (ft : FReg) : EncodesRow.Statement (.cOltS fs ft) :=
  .of (packR_and_FFE0003F ..) rfl (packR_and_000007C0 ..) rfl
theorem EncodesRow.cOltD (fs : FReg) (ft : FReg) : EncodesRow.Statement (.cOltD fs ft) :=
  .of (packR_and_FFE0003F ..) rfl (packR_and_000007C0 ..) rfl
theorem EncodesRow.cUltS (fs : FReg) (ft : FReg) : EncodesRow.Statement (.cUltS fs ft) :=
  .of (packR_and_FFE0003F ..) rfl (packR_and_000007C0 ..) rfl
theorem EncodesRow.cUltD (fs : FReg) (ft : FReg) : EncodesRow.Statement (.cUltD fs ft) :=
  .of (packR_and_FFE0003F ..) rfl (packR_and_000007C0 ..) rfl
theorem EncodesRow.cOleS (fs : FReg) (ft : FReg) : EncodesRow.Statement (.cOleS fs ft) :=
  .of (packR_and_FFE0003F ..) rfl (packR_and_000007C0 ..) rfl
theorem EncodesRow.cOleD (fs : FReg) (ft : FReg) : EncodesRow.Statement (.cOleD fs ft) :=
  .of (packR_and_FFE0003F ..) rfl (packR_and_000007C0 ..) rfl
theorem EncodesRow.cUleS (fs : FReg) (ft : FReg) : EncodesRow.Statement (.cUleS fs ft) :=
  .of (packR_and_FFE0003F ..) rfl (packR_and_000007C0 ..) rfl
theorem EncodesRow.cUleD (fs : FReg) (ft : FReg) : EncodesRow.Statement (.cUleD fs ft) :=
  .of (packR_and_FFE0003F ..) rfl (packR_and_000007C0 ..) rfl
theorem EncodesRow.cSfS (fs : FReg) (ft : FReg) : EncodesRow.Statement (.cSfS fs ft) :=
  .of (packR_and_FFE0003F ..) rfl (packR_and_000007C0 ..) rfl
theorem EncodesRow.cSfD (fs : FReg) (ft : FReg) : EncodesRow.Statement (.cSfD fs ft) :=
  .of (packR_and_FFE0003F ..) rfl (packR_and_000007C0 ..) rfl
theorem EncodesRow.cNgleS (fs : FReg) (ft : FReg) : EncodesRow.Statement (.cNgleS fs ft) :=
  .of (packR_and_FFE0003F ..) rfl (packR_and_000007C0 ..) rfl
theorem EncodesRow.cNgleD (fs : FReg) (ft : FReg) : EncodesRow.Statement (.cNgleD fs ft) :=
  .of (packR_and_FFE0003F ..) rfl (packR_and_000007C0 ..) rfl
theorem EncodesRow.cSeqS (fs : FReg) (ft : FReg) : EncodesRow.Statement (.cSeqS fs ft) :=
  .of (packR_and_FFE0003F ..) rfl (packR_and_000007C0 ..) rfl
theorem EncodesRow.cSeqD (fs : FReg) (ft : FReg) : EncodesRow.Statement (.cSeqD fs ft) :=
  .of (packR_and_FFE0003F ..) rfl (packR_and_000007C0 ..) rfl
theorem EncodesRow.cNglS (fs : FReg) (ft : FReg) : EncodesRow.Statement (.cNglS fs ft) :=
  .of (packR_and_FFE0003F ..) rfl (packR_and_000007C0 ..) rfl
theorem EncodesRow.cNglD (fs : FReg) (ft : FReg) : EncodesRow.Statement (.cNglD fs ft) :=
  .of (packR_and_FFE0003F ..) rfl (packR_and_000007C0 ..) rfl
theorem EncodesRow.cLtS (fs : FReg) (ft : FReg) : EncodesRow.Statement (.cLtS fs ft) :=
  .of (packR_and_FFE0003F ..) rfl (packR_and_000007C0 ..) rfl
theorem EncodesRow.cLtD (fs : FReg) (ft : FReg) : EncodesRow.Statement (.cLtD fs ft) :=
  .of (packR_and_FFE0003F ..) rfl (packR_and_000007C0 ..) rfl
theorem EncodesRow.cNgeS (fs : FReg) (ft : FReg) : EncodesRow.Statement (.cNgeS fs ft) :=
  .of (packR_and_FFE0003F ..) rfl (packR_and_000007C0 ..) rfl
theorem EncodesRow.cNgeD (fs : FReg) (ft : FReg) : EncodesRow.Statement (.cNgeD fs ft) :=
  .of (packR_and_FFE0003F ..) rfl (packR_and_000007C0 ..) rfl
theorem EncodesRow.cLeS (fs : FReg) (ft : FReg) : EncodesRow.Statement (.cLeS fs ft) :=
  .of (packR_and_FFE0003F ..) rfl (packR_and_000007C0 ..) rfl
theorem EncodesRow.cLeD (fs : FReg) (ft : FReg) : EncodesRow.Statement (.cLeD fs ft) :=
  .of (packR_and_FFE0003F ..) rfl (packR_and_000007C0 ..) rfl
theorem EncodesRow.cNgtS (fs : FReg) (ft : FReg) : EncodesRow.Statement (.cNgtS fs ft) :=
  .of (packR_and_FFE0003F ..) rfl (packR_and_000007C0 ..) rfl
theorem EncodesRow.cNgtD (fs : FReg) (ft : FReg) : EncodesRow.Statement (.cNgtD fs ft) :=
  .of (packR_and_FFE0003F ..) rfl (packR_and_000007C0 ..) rfl

end Sys2Proof.Laws
end

