-- ==== Sys2Proof/Laws/Translate.lean ====
section
/-! SUPPORT. Laws/Translate.lean: a translation keeps the offset within the smallest page, so that what is
aligned stays aligned, and depends on nothing but what 20_memory R100 lists. -/

namespace Sys2Proof.Machine

variable {s t : State} {va : Dword} {pa : Word} {kind : Access}

/-- The low 12 bits of the offset mask are all ones (20_memory R96). -/
theorem TlbEntry.offMask_mod (e : TlbEntry) : e.offMask.toNat % 2 ^ 12 = 2 ^ 12 - 1 := by
  have h : e.offMask.extractLsb' 0 12 = 0xFFF#12 := by
    unfold TlbEntry.offMask
    ext i hi
    simp only [BitVec.getElem_extractLsb', BitVec.getLsbD_ushiftRight, BitVec.getLsbD_or,
      BitVec.getLsbD_shiftLeft]
    have : (0x1FFF#32).getLsbD (1 + (0 + i)) = true := by interval_cases i <;> rfl
    have k : (0xFFF#12)[i] = true := by
      rw [← BitVec.getLsbD_eq_getElem]
      interval_cases i <;> rfl
    simp only [this, k, Bool.or_true]
  simpa [BitVec.extractLsb'_toNat] using congrArg BitVec.toNat h

/-- The entry's page keeps the offset. -/
theorem TlbEntry.select_mod {e : TlbEntry} (h : e.select va kind = .ok pa) :
    pa.toNat % 2 ^ 12 = va.toNat % 2 ^ 12 := by
  unfold TlbEntry.select at h
  simp only at h
  split at h
  · cases h
  · split at h
    · cases h
    · injection h with h
      subst h
      rw [BitVec.toNat_add, BitVec.toNat_mul, BitVec.toNat_and, Nat.mod_mod_of_dvd _ (by decide), Nat.add_mod,
        Nat.and_mod_two_pow, e.offMask_mod, Nat.and_two_pow_sub_one_eq_mod, Nat.mod_mod]
      simp only [lo32, BitVec.extractLsb'_toNat, BitVec.toNat_ofNat, BitVec.toNat_setWidth]
      omega

theorem region_mod {m : Mode} {a : Bool} (h : region m a va = .unmapped pa) :
    pa.toNat % 2 ^ 12 = va.toNat % 2 ^ 12 := by
  have key : ∀ c : Word, c.toNat % 2 ^ 12 = 0 → (lo32 va - c).toNat % 2 ^ 12 = va.toNat % 2 ^ 12 := by
    intro c hc
    simp only [lo32, BitVec.toNat_sub, BitVec.extractLsb'_toNat]
    have := c.isLt
    omega
  have k0 : kseg0 va = .unmapped pa → pa.toNat % 2 ^ 12 = va.toNat % 2 ^ 12 := by
    intro q; injection q with q; exact q ▸ key _ (by decide)
  have k1 : kseg1 va = .unmapped pa → pa.toNat % 2 ^ 12 = va.toNat % 2 ^ 12 := by
    intro q; injection q with q; exact q ▸ key _ (by decide)
  unfold region at h
  split at h
  · unfold segment64 at h
    cases m <;> simp only at h <;> (try (repeat' (split at h))) <;> first
      | exact k0 h
      | exact k1 h
      | (unfold xkphys at h
         split at h
         · injection h with h
           subst h
           simp only [lo32, BitVec.extractLsb'_toNat]
           omega
         · cases h)
      | cases h
  · split at h
    · unfold segment32 at h
      cases m <;> simp only at h <;> (try (repeat' (split at h))) <;> first
        | exact k0 h
        | exact k1 h
        | cases h
    · cases h

/-- A translation keeps the low 12 bits of the address (20_memory R89 to R96). -/
theorem State.translate_mod (h : s.translate va kind = .ok pa) : pa.toNat % 2 ^ 12 = va.toNat % 2 ^ 12 := by
  unfold State.translate at h
  split at h
  · cases h
  · next q hq => injection h with h; exact h ▸ region_mod hq
  · unfold tlbLookup at h
    split at h
    · exact TlbEntry.select_mod h
    · cases h

/-- An access that reaches the bus reaches an aligned address, all of whose bytes exist. -/
theorem State.reaches_aligned {n : Nat} (h : s.reaches va n kind pa) (hn : n ∣ 2 ^ 12) : pa.toNat % n = 0 := by
  have e := State.translate_mod h.2
  have := h.1
  rw [← Nat.mod_mod_of_dvd pa.toNat hn, e, Nat.mod_mod_of_dvd _ hn, this]

/-- The mode and the width flags depend on Status alone (10_state R54). -/
theorem State.mode_congr (h : t.cp0.status = s.cp0.status) : t.mode = s.mode := by
  unfold State.mode State.exl State.erl State.ksu
  rw [h]

theorem State.addr64_congr (h : t.cp0.status = s.cp0.status) : t.addr64 = s.addr64 := by
  unfold State.addr64 State.kx State.sx State.ux
  rw [State.mode_congr h, h]

theorem State.ops64_congr (h : t.cp0.status = s.cp0.status) : t.ops64 = s.ops64 := by
  unfold State.ops64 State.sx State.ux
  rw [State.mode_congr h, h]

/-- What a translation depends on (20_memory R100). -/
theorem State.translate_congr (hm : t.mode = s.mode) (ha : t.addr64 = s.addr64) (hi : t.asid = s.asid)
    (ht : t.tlb = s.tlb) (va : Dword) (kind : Access) : t.translate va kind = s.translate va kind := by
  simp [State.translate, hm, ha, hi, ht]

end Sys2Proof.Machine
end

