-- ==== Sys2Proof/Laws/Step.lean ====
section
/-! SUPPORT. Laws/Step.lean: what lines 1 to 4 of the step leave (10_state R24), and what the step answers. -/

namespace Sys2Proof.Machine

variable {s t : State}

@[simp] theorem State.beginStep_prevPc (s : State) : s.beginStep.prevPc = s.pc := rfl
@[simp] theorem State.beginStep_pc (s : State) : s.beginStep.pc = s.nextPc := rfl
@[simp] theorem State.beginStep_nextPc (s : State) : s.beginStep.nextPc = s.nextPc + 4#64 := rfl
@[simp] theorem State.beginStep_inDelaySlot (s : State) : s.beginStep.inDelaySlot = s.branchPending := rfl
@[simp] theorem State.beginStep_branchPending (s : State) : s.beginStep.branchPending = false := rfl
@[simp] theorem State.beginStep_mem (s : State) : s.beginStep.mem = s.mem := rfl
@[simp] theorem State.beginStep_busMap (s : State) : s.beginStep.busMap = s.busMap := rfl
@[simp] theorem State.beginStep_busTrace (s : State) : s.beginStep.busTrace = s.busTrace := rfl
@[simp] theorem State.beginStep_tlb (s : State) : s.beginStep.tlb = s.tlb := rfl
@[simp] theorem State.beginStep_status (s : State) : s.beginStep.cp0.status = s.cp0.status := rfl
theorem State.beginStep_entryHi (s : State) : s.beginStep.cp0.entryHi = s.cp0.entryHi := rfl
@[simp] theorem State.beginStep_exl (s : State) : s.beginStep.exl = s.exl := by
  simp only [State.exl, State.beginStep_status]
@[simp] theorem State.beginStep_mode (s : State) : s.beginStep.mode = s.mode :=
  State.mode_congr s.beginStep_status
@[simp] theorem State.beginStep_addr64 (s : State) : s.beginStep.addr64 = s.addr64 :=
  State.addr64_congr s.beginStep_status

/-- A translation after lines 1 to 4 is the translation before them. -/
@[simp] theorem State.beginStep_translate (s : State) (va : Dword) (kind : Access) :
    s.beginStep.translate va kind = s.translate va kind :=
  State.translate_congr s.beginStep_mode s.beginStep_addr64 (by simp only [State.asid, State.beginStep_entryHi])
    s.beginStep_tlb va kind

/-- Lines 1 to 4 do not touch the platform's map. -/
@[simp] theorem State.beginStep_isMemory (s : State) (pa : Word) : s.beginStep.isMemory pa = s.isMemory pa := rfl

/-- Everything a step can answer: an interrupt is taken, the fetch raises, the word is
unallocated, or the instruction runs. -/
theorem step_next (h : step s = .next t) :
    (s.beginStep.interruptCondition = true ∧ t = s.beginStep.takeException .int)
      ∨ (∃ e, t = (s.beginStep.recordFaultAddress s.pc).takeException e)
      ∨ (∃ pa, s.reaches s.pc 4 .fetch pa ∧ ((∃ e, decode (s.beginStep.bus32 pa) = .error e) ∧
            t = (s.beginStep.afterRead pa 4).takeException .ri
          ∨ ∃ i, decode (s.beginStep.bus32 pa) = .ok i ∧ exec i (s.beginStep.afterRead pa 4) = .next t)) := by
  unfold step at h
  split at h
  · cases h
  · split at h
    · next hi => exact .inl ⟨hi, by injection h with h; exact h.symm⟩
    · refine .inr ?_
      unfold State.fetchDecode State.fetch at h
      rcases State.aligned_next h with ⟨ha, h⟩ | ⟨_, h⟩
      · rcases State.translated_next h with ⟨pa, hp, h⟩ | ⟨f, _, h⟩
        · refine .inr ⟨pa, ⟨ha, by simpa using hp⟩, ?_⟩
          beta_reduce at h
          split at h
          · next i hd => exact .inr ⟨i, hd, h⟩
          · next e hd => exact .inl ⟨⟨e, hd⟩, by injection h with h; exact h.symm⟩
        · exact .inl ⟨_, h⟩
      · exact .inl ⟨_, h⟩

end Sys2Proof.Machine
end

