-- ==== Sys2Proof/Tests/Slice0.lean ====
section
/-! SUPPORT. Tests/Slice0.lean: checks of the model against values written in the spec, and, for every obligation
with hypotheses, a state that meets them. -/

namespace Sys2Proof.Tests

open Sys2Proof Sys2Proof.Machine

set_option maxRecDepth 8000
set_option Elab.async false

/-! ### Helpers -/

/-- The common start state of 95_test_vectors section 0: kernel mode, 32-bit addressing, pc in KSEG0. -/
def base : State :=
  { State.reset with
    pc := 0xFFFFFFFF80001000#64, nextPc := 0xFFFFFFFF80001004#64
    cp0 := { Cp0.atReset with status := 0#32 } }

/-- A state with another Status. -/
def under (s : State) (status : Word) : State := s.setCp0 { s.cp0 with status := status }

/-- A state with general registers set. -/
def regs (s : State) (l : List (Reg × Dword)) : State := l.foldl (fun t p => t.setX p.1 p.2) s

/-- A state with FPR cells set. -/
def fprs (s : State) (l : List (FReg × Dword)) : State := l.foldl (fun t p => t.setFpr p.1 p.2) s

/-- Does an outcome give a next state with a property? -/
def gives (r : Result) (p : State → Bool) : Bool :=
  match r with
  | .next t => p t
  | .fault _ => false
  | .refused _ => false

/-- One step on a word placed where it is fetched. -/
def runs (s : State) (w : Word) (p : State → Bool) : Bool := gives (step (s.withFetchWord 32 w.toNat)) p

/-- The state after an exception of `base` with this code, not in a delay slot (60_exceptions R502). -/
def raised (code : BitVec 5) (t : State) : Bool :=
  t.cp0.cause.extractLsb' 2 5 == code && t.exl && t.cp0.epc == 0xFFFFFFFF80001000#64
    && t.pc == 0xFFFFFFFF80000180#64

/-- CU1 = 1, FR = 1. -/
def fpu : State := under base 0x24000000#32

/-- User mode with 64-bit addressing and operations (KSU = 2, UX = 1). -/
def user64 : State := { under base 0x30#32 with pc := 0x4ABC#64, nextPc := 0x4AC0#64 }

/-- The TLB entry of the example of 45_cp0 R377. -/
def entry : TlbEntry :=
  { initialized := true, mask := 0#12, r := 0#2, vpn2 := 2#27, asid := 0#8, global := true,
    lo0 := { pfn := 0x31#24, c := 0#3, d := true, v := true }, lo1 := { pfn := 0#24, c := 0#3, d := false, v := false } }

/-! ### Well-formedness -/

/-- The check of wellFormed refuses the term that has no word of its own (30_encoding R148). -/
theorem test_sll_zero_ill_formed : (Instr.sll 0#5 0#5 0#5).wellFormed = false := by decide

theorem test_sll_well_formed : (Instr.sll 0#5 0#5 1#5).wellFormed = true := by decide

/-! ### Decoding: a word for every constructor, from the examples of the rules and from the rows of
spec/opcode_table.json -/

/-- 40_integer_alu. -/
theorem test_decode_alu : ∀ p ∈ ([
      (0x00000000#32, .nop), (0x00221820#32, .add 3#5 1#5 2#5), (0x00221821#32, .addu 3#5 1#5 2#5),
      (0x00221822#32, .sub 3#5 1#5 2#5), (0x00221823#32, .subu 3#5 1#5 2#5), (0x00221824#32, .and 3#5 1#5 2#5),
      (0x00221825#32, .or 3#5 1#5 2#5), (0x00221826#32, .xor 3#5 1#5 2#5), (0x00221827#32, .nor 3#5 1#5 2#5),
      (0x0022182A#32, .slt 3#5 1#5 2#5), (0x0022182B#32, .sltu 3#5 1#5 2#5),
      (0x0022182C#32, .dadd 3#5 1#5 2#5), (0x0022182D#32, .daddu 3#5 1#5 2#5),
      (0x0022182E#32, .dsub 3#5 1#5 2#5), (0x0022182F#32, .dsubu 3#5 1#5 2#5),
      (0x20210001#32, .addi 1#5 1#5 0x1#16), (0x24210001#32, .addiu 1#5 1#5 0x1#16),
      (0x2822FFFF#32, .slti 2#5 1#5 0xFFFF#16), (0x2C22FFFF#32, .sltiu 2#5 1#5 0xFFFF#16),
      (0x3022FFFF#32, .andi 2#5 1#5 0xFFFF#16), (0x3422FFFF#32, .ori 2#5 1#5 0xFFFF#16),
      (0x3822FFFF#32, .xori 2#5 1#5 0xFFFF#16), (0x3C028000#32, .lui 2#5 0x8000#16),
      (0x6022FFFF#32, .daddi 2#5 1#5 0xFFFF#16), (0x6422FFFF#32, .daddiu 2#5 1#5 0xFFFF#16),
      (0x00021900#32, .sll 3#5 2#5 4#5), (0x00021902#32, .srl 3#5 2#5 4#5), (0x00021903#32, .sra 3#5 2#5 4#5),
      (0x00221804#32, .sllv 3#5 2#5 1#5), (0x00221806#32, .srlv 3#5 2#5 1#5),
      (0x00221807#32, .srav 3#5 2#5 1#5), (0x00021938#32, .dsll 3#5 2#5 4#5),
      (0x0002193A#32, .dsrl 3#5 2#5 4#5), (0x0002193B#32, .dsra 3#5 2#5 4#5),
      (0x00221814#32, .dsllv 3#5 2#5 1#5), (0x00221816#32, .dsrlv 3#5 2#5 1#5),
      (0x00221817#32, .dsrav 3#5 2#5 1#5), (0x0002193C#32, .dsll32 3#5 2#5 4#5),
      (0x0002193E#32, .dsrl32 3#5 2#5 4#5), (0x0002193F#32, .dsra32 3#5 2#5 4#5)] : List (Word × Instr)),
    decode p.1 = .ok p.2 := by decide

/-- 41_muldiv. -/
theorem test_decode_muldiv : ∀ p ∈ ([
      (0x00220018#32, .mult 1#5 2#5), (0x00220019#32, .multu 1#5 2#5), (0x0022001A#32, .div 1#5 2#5),
      (0x0022001B#32, .divu 1#5 2#5), (0x0022001C#32, .dmult 1#5 2#5), (0x0022001D#32, .dmultu 1#5 2#5),
      (0x0022001E#32, .ddiv 1#5 2#5), (0x0022001F#32, .ddivu 1#5 2#5), (0x00001810#32, .mfhi 3#5),
      (0x00200011#32, .mthi 1#5), (0x00001812#32, .mflo 3#5), (0x00200013#32, .mtlo 1#5)] : List (Word × Instr)),
    decode p.1 = .ok p.2 := by decide

/-- 42_branch_jump. -/
theorem test_decode_branch : ∀ p ∈ ([
      (0x08000400#32, .j 0x400#26), (0x0C000400#32, .jal 0x400#26), (0x03E00008#32, .jr 31#5),
      (0x0040F809#32, .jalr 31#5 2#5), (0x10220003#32, .beq 1#5 2#5 0x3#16),
      (0x1422FFFE#32, .bne 1#5 2#5 0xFFFE#16), (0x18200003#32, .blez 1#5 0x3#16),
      (0x1C200003#32, .bgtz 1#5 0x3#16), (0x50220003#32, .beql 1#5 2#5 0x3#16),
      (0x54220003#32, .bnel 1#5 2#5 0x3#16), (0x58200003#32, .blezl 1#5 0x3#16),
      (0x5C200003#32, .bgtzl 1#5 0x3#16), (0x04200003#32, .bltz 1#5 0x3#16), (0x04210003#32, .bgez 1#5 0x3#16),
      (0x04220003#32, .bltzl 1#5 0x3#16), (0x04230003#32, .bgezl 1#5 0x3#16),
      (0x04300003#32, .bltzal 1#5 0x3#16), (0x04110003#32, .bgezal 0#5 0x3#16),
      (0x04320003#32, .bltzall 1#5 0x3#16), (0x04330003#32, .bgezall 1#5 0x3#16)] : List (Word × Instr)),
    decode p.1 = .ok p.2 := by decide

/-- 43_load_store. -/
theorem test_decode_load_store : ∀ p ∈ ([
      (0x80220005#32, .lb 2#5 1#5 0x5#16), (0x90220005#32, .lbu 2#5 1#5 0x5#16),
      (0x84220000#32, .lh 2#5 1#5 0x0#16), (0x94220000#32, .lhu 2#5 1#5 0x0#16),
      (0x8C220000#32, .lw 2#5 1#5 0x0#16), (0x9C220000#32, .lwu 2#5 1#5 0x0#16),
      (0xDC220000#32, .ld 2#5 1#5 0x0#16), (0x88220005#32, .lwl 2#5 1#5 0x5#16),
      (0x98220005#32, .lwr 2#5 1#5 0x5#16), (0x68220005#32, .ldl 2#5 1#5 0x5#16),
      (0x6C220005#32, .ldr 2#5 1#5 0x5#16), (0xA0220005#32, .sb 2#5 1#5 0x5#16),
      (0xA4220000#32, .sh 2#5 1#5 0x0#16), (0xAC220000#32, .sw 2#5 1#5 0x0#16),
      (0xFC220000#32, .sd 2#5 1#5 0x0#16), (0xA8220005#32, .swl 2#5 1#5 0x5#16),
      (0xB8220005#32, .swr 2#5 1#5 0x5#16), (0xB0220005#32, .sdl 2#5 1#5 0x5#16),
      (0xB4220005#32, .sdr 2#5 1#5 0x5#16), (0xC0220000#32, .ll 2#5 1#5 0x0#16),
      (0xD0220000#32, .lld 2#5 1#5 0x0#16), (0xE0220000#32, .sc 2#5 1#5 0x0#16),
      (0xF0220000#32, .scd 2#5 1#5 0x0#16), (0xC4220008#32, .lwc1 2#5 1#5 0x8#16),
      (0xD4220008#32, .ldc1 2#5 1#5 0x8#16), (0xE4220008#32, .swc1 2#5 1#5 0x8#16),
      (0xF4220008#32, .sdc1 2#5 1#5 0x8#16)] : List (Word × Instr)),
    decode p.1 = .ok p.2 := by decide

/-- 44_trap_system. -/
theorem test_decode_trap_system : ∀ p ∈ ([
      (0x03FFFFCC#32, .syscall 0xFFFFF#20), (0x000001CD#32, .break_ 0x7#20), (0x0000000F#32, .sync),
      (0xBC340000#32, .cache 20#5 1#5 0x0#16), (0x00220030#32, .tge 1#5 2#5 0#10),
      (0x00220031#32, .tgeu 1#5 2#5 0#10), (0x00220032#32, .tlt 1#5 2#5 0#10),
      (0x00220033#32, .tltu 1#5 2#5 0#10), (0x00220034#32, .teq 1#5 2#5 0#10),
      (0x00220036#32, .tne 1#5 2#5 0#10), (0x04280005#32, .tgei 1#5 0x5#16),
      (0x0429FFFF#32, .tgeiu 1#5 0xFFFF#16), (0x042A0005#32, .tlti 1#5 0x5#16),
      (0x042BFFFF#32, .tltiu 1#5 0xFFFF#16), (0x042CFFFF#32, .teqi 1#5 0xFFFF#16),
      (0x042E0005#32, .tnei 1#5 0x5#16), (0x48000005#32, .cop2 0x5#26)] : List (Word × Instr)),
    decode p.1 = .ok p.2 := by decide

/-- 45_cp0. -/
theorem test_decode_cp0 : ∀ p ∈ ([
      (0x40026000#32, .mfc0 2#5 12#5), (0x40225000#32, .dmfc0 2#5 10#5), (0x40826000#32, .mtc0 2#5 12#5),
      (0x40A25000#32, .dmtc0 2#5 10#5), (0x42000001#32, .tlbr), (0x42000002#32, .tlbwi),
      (0x42000006#32, .tlbwr), (0x42000008#32, .tlbp), (0x42000018#32, .eret)] : List (Word × Instr)),
    decode p.1 = .ok p.2 := by decide

/-- 46_fpu_move. -/
theorem test_decode_fpu_move : ∀ p ∈ ([
      (0x44022000#32, .mfc1 2#5 4#5), (0x44222000#32, .dmfc1 2#5 4#5), (0x44420000#32, .cfc1 2#5 0#5),
      (0x44822000#32, .mtc1 2#5 4#5), (0x44A22000#32, .dmtc1 2#5 4#5), (0x44C2F800#32, .ctc1 2#5 31#5),
      (0x45000003#32, .bc1f 0x3#16), (0x45010003#32, .bc1t 0x3#16), (0x45020003#32, .bc1fl 0x3#16),
      (0x45030003#32, .bc1tl 0x3#16)] : List (Word × Instr)),
    decode p.1 = .ok p.2 := by decide

/-- 47_fpu_arith. -/
theorem test_decode_fpu_arith_1 : ∀ p ∈ ([
      (0x46041180#32, .addS 6#5 2#5 4#5), (0x46241180#32, .addD 6#5 2#5 4#5),
      (0x46041181#32, .subS 6#5 2#5 4#5), (0x46241181#32, .subD 6#5 2#5 4#5),
      (0x46041182#32, .mulS 6#5 2#5 4#5), (0x46241182#32, .mulD 6#5 2#5 4#5),
      (0x46041183#32, .divS 6#5 2#5 4#5), (0x46241183#32, .divD 6#5 2#5 4#5), (0x46001184#32, .sqrtS 6#5 2#5),
      (0x46201184#32, .sqrtD 6#5 2#5), (0x46001185#32, .absS 6#5 2#5), (0x46201185#32, .absD 6#5 2#5),
      (0x46001186#32, .movS 6#5 2#5), (0x46201186#32, .movD 6#5 2#5), (0x46001187#32, .negS 6#5 2#5),
      (0x46201187#32, .negD 6#5 2#5), (0x46001188#32, .roundLS 6#5 2#5), (0x46201188#32, .roundLD 6#5 2#5),
      (0x46001189#32, .truncLS 6#5 2#5), (0x46201189#32, .truncLD 6#5 2#5), (0x4600118A#32, .ceilLS 6#5 2#5),
      (0x4620118A#32, .ceilLD 6#5 2#5), (0x4600118B#32, .floorLS 6#5 2#5), (0x4620118B#32, .floorLD 6#5 2#5),
      (0x4600118C#32, .roundWS 6#5 2#5), (0x4620118C#32, .roundWD 6#5 2#5), (0x4600118D#32, .truncWS 6#5 2#5),
      (0x4620118D#32, .truncWD 6#5 2#5), (0x4600118E#32, .ceilWS 6#5 2#5), (0x4620118E#32, .ceilWD 6#5 2#5),
      (0x4600118F#32, .floorWS 6#5 2#5), (0x4620118F#32, .floorWD 6#5 2#5), (0x462011A0#32, .cvtSD 6#5 2#5),
      (0x468011A0#32, .cvtSW 6#5 2#5), (0x46A011A0#32, .cvtSL 6#5 2#5), (0x460011A1#32, .cvtDS 6#5 2#5),
      (0x468011A1#32, .cvtDW 6#5 2#5), (0x46A011A1#32, .cvtDL 6#5 2#5), (0x460011A4#32, .cvtWS 6#5 2#5),
      (0x462011A4#32, .cvtWD 6#5 2#5)] : List (Word × Instr)),
    decode p.1 = .ok p.2 := by decide

/-- 47_fpu_arith. -/
theorem test_decode_fpu_arith_2 : ∀ p ∈ ([
      (0x460011A5#32, .cvtLS 6#5 2#5), (0x462011A5#32, .cvtLD 6#5 2#5), (0x46041030#32, .cFS 2#5 4#5),
      (0x46241030#32, .cFD 2#5 4#5), (0x46041031#32, .cUnS 2#5 4#5), (0x46241031#32, .cUnD 2#5 4#5),
      (0x46041032#32, .cEqS 2#5 4#5), (0x46241032#32, .cEqD 2#5 4#5), (0x46041033#32, .cUeqS 2#5 4#5),
      (0x46241033#32, .cUeqD 2#5 4#5), (0x46041034#32, .cOltS 2#5 4#5), (0x46241034#32, .cOltD 2#5 4#5),
      (0x46041035#32, .cUltS 2#5 4#5), (0x46241035#32, .cUltD 2#5 4#5), (0x46041036#32, .cOleS 2#5 4#5),
      (0x46241036#32, .cOleD 2#5 4#5), (0x46041037#32, .cUleS 2#5 4#5), (0x46241037#32, .cUleD 2#5 4#5),
      (0x46041038#32, .cSfS 2#5 4#5), (0x46241038#32, .cSfD 2#5 4#5), (0x46041039#32, .cNgleS 2#5 4#5),
      (0x46241039#32, .cNgleD 2#5 4#5), (0x4604103A#32, .cSeqS 2#5 4#5), (0x4624103A#32, .cSeqD 2#5 4#5),
      (0x4604103B#32, .cNglS 2#5 4#5), (0x4624103B#32, .cNglD 2#5 4#5), (0x4604103C#32, .cLtS 2#5 4#5),
      (0x4624103C#32, .cLtD 2#5 4#5), (0x4604103D#32, .cNgeS 2#5 4#5), (0x4624103D#32, .cNgeD 2#5 4#5),
      (0x4604103E#32, .cLeS 2#5 4#5), (0x4624103E#32, .cLeD 2#5 4#5), (0x4604103F#32, .cNgtS 2#5 4#5),
      (0x4624103F#32, .cNgtD 2#5 4#5)] : List (Word × Instr)),
    decode p.1 = .ok p.2 := by decide

/-- Reserved words match no row (30_encoding R149 to R153). -/
theorem test_reserved_words_refused :
    ([0x70000000#32, 0x7C000000#32, 0x00000001#32, 0x04040000#32, 0x46C00000#32, 0x42000003#32] : List Word).all
      (fun w => !(decode w).isOk) = true := by decide +kernel

/-! ### One step on a value of the spec (95_test_vectors and the examples of the rules) -/

theorem test_add_overflow : runs (regs base [(1#5, 0x7FFFFFFF#64), (2#5, 1#64)]) 0x00221820#32 (raised 12#5) = true := by
  decide +kernel

theorem test_add_sign_extends : runs (regs base [(1#5, 0xFFFFFFFFFFFFFFFB#64), (2#5, 3#64)]) 0x00221820#32
    (fun t => t.x 3#5 == 0xFFFFFFFFFFFFFFFE#64) = true := by decide +kernel

theorem test_subu_wraps : runs (regs base [(1#5, 0xFFFFFFFF80000000#64), (2#5, 1#64)]) 0x00221823#32
    (fun t => t.x 3#5 == 0x7FFFFFFF#64) = true := by decide +kernel

theorem test_slt_compares_64_bits : runs (regs base [(1#5, 0x80000000#64)]) 0x0022182A#32
    (fun t => t.x 3#5 == 0#64) = true := by decide +kernel

theorem test_dsub_overflow : runs (regs base [(1#5, 0x8000000000000000#64), (2#5, 1#64)]) 0x0022182E#32 (raised 12#5)
    = true := by decide +kernel

theorem test_sltiu_immediate_signed : runs (regs base [(1#5, 5#64)]) 0x2C22FFFF#32 (fun t => t.x 2#5 == 1#64)
    = true := by decide +kernel

theorem test_xori_immediate_unsigned : runs (regs base [(1#5, 0x123456789ABCDEF0#64)]) 0x3822FFFF#32
    (fun t => t.x 2#5 == 0x123456789ABC210F#64) = true := by decide +kernel

theorem test_lui_sign_extends : runs base 0x3C028000#32 (fun t => t.x 2#5 == 0xFFFFFFFF80000000#64) = true := by
  decide +kernel

theorem test_sra_shifts_whole_register : runs (regs base [(2#5, 0x180000000#64)]) 0x00021903#32
    (fun t => t.x 3#5 == 0x18000000#64) = true := by decide +kernel

theorem test_srlv_amount_masked : runs (regs base [(1#5, 0x24#64), (2#5, 0xFFFFFFFF80000001#64)]) 0x00221806#32
    (fun t => t.x 3#5 == 0x08000000#64) = true := by decide +kernel

theorem test_dsra32 : runs (regs base [(2#5, 0x8000000000000001#64)]) 0x0002193F#32
    (fun t => t.x 3#5 == 0xFFFFFFFFF8000000#64) = true := by decide +kernel

theorem test_mult_negative : runs (regs base [(1#5, 0xFFFFFFFFFFFFFFFE#64), (2#5, 3#64)]) 0x00220018#32
    (fun t => t.lo == 0xFFFFFFFFFFFFFFFA#64 && t.hi == 0xFFFFFFFFFFFFFFFF#64) = true := by decide +kernel

theorem test_div_truncates : runs (regs base [(1#5, 0xFFFFFFFFFFFFFFF9#64), (2#5, 2#64)]) 0x0022001A#32
    (fun t => t.lo == 0xFFFFFFFFFFFFFFFD#64 && t.hi == 0xFFFFFFFFFFFFFFFF#64) = true := by decide +kernel

theorem test_div_by_zero : runs (regs base [(1#5, 7#64)]) 0x0022001A#32
    (fun t => t.lo == 0xFFFFFFFFFFFFFFFF#64 && t.hi == 7#64) = true := by decide +kernel

theorem test_ddivu_by_zero : runs (regs base [(1#5, 7#64)]) 0x0022001F#32
    (fun t => t.lo == 0xFFFFFFFFFFFFFFFF#64 && t.hi == 7#64) = true := by decide +kernel

theorem test_beq_not_taken_has_delay_slot : runs (regs base [(1#5, 1#64)]) 0x10200003#32
    (fun t => t.branchPending && t.nextPc == 0xFFFFFFFF80001008#64) = true := by decide +kernel

theorem test_bnel_not_taken_skips : runs base 0x54200003#32
    (fun t => t.pc == 0xFFFFFFFF80001008#64 && !t.branchPending) = true := by decide +kernel

theorem test_jalr_reads_target_first : runs (regs base [(1#5, 0xFFFFFFFF80002000#64)]) 0x00200809#32
    (fun t => t.nextPc == 0xFFFFFFFF80002000#64 && t.x 1#5 == 0xFFFFFFFF80001008#64) = true := by decide +kernel

/-- The doubleword 0x0011223344556677 at physical 0x2000 (95_test_vectors section 2.4). -/
def data : State := regs (base.setMem (base.mem.write64 0x2000#32 0x0011223344556677#64)) [(1#5, 0xFFFFFFFF80002000#64)]

theorem test_lb_sign : runs (data.setMem (data.mem.write8 0x2000#32 0x80#8)) 0x80220000#32
    (fun t => t.x 2#5 == 0xFFFFFFFFFFFFFF80#64) = true := by decide +kernel

theorem test_lw_misaligned : runs data 0x8C220002#32 (fun t => raised 4#5 t && t.cp0.badVAddr == 0xFFFFFFFF80002002#64)
    = true := by decide +kernel

theorem test_lwl_offset_1 : runs (regs data [(2#5, 0xAAAAAAAA#64)]) 0x88220001#32
    (fun t => t.x 2#5 == 0x112233AA#64) = true := by decide +kernel

theorem test_lwr_offset_1 : runs (regs data [(2#5, 0xAAAAAAAA#64)]) 0x98220001#32
    (fun t => t.x 2#5 == 0xFFFFFFFFAAAA0011#64) = true := by decide +kernel

theorem test_sdl_offset_3 : runs (regs data [(2#5, 0xA1A2A3A4A5A6A7A8#64)]) 0xB0220003#32
    (fun t => t.mem.read64 0x2000#32 == 0x001122A1A2A3A4A5#64) = true := by decide +kernel

theorem test_sdr_offset_5 : runs (regs data [(2#5, 0xA1A2A3A4A5A6A7A8#64)]) 0xB4220005#32
    (fun t => t.mem.read64 0x2000#32 == 0xA3A4A5A6A7A86677#64) = true := by decide +kernel

/-- A device at 0x2000 to 0x2003, nothing at 0x2004 to 0x2007, ROM at 0x2008 to 0x200F; register 2 holds 5. -/
def platform : State :=
  { regs (data.setMem (data.mem.write64 0x2008#32 0x99AABBCCDDEEFF00#64)) [(2#5, 5#64)] with
    busMap := [{ first := 0x2000#32, last := 0x2003#32, kind := .device },
      { first := 0x2000#32, last := 0x2007#32, kind := .undecoded },
      { first := 0x2008#32, last := 0x200F#32, kind := .rom }] }

/-- The accesses the platform saw, without the values it answered. -/
def seen (t : State) : List (Bool × Word × Nat) := t.busTrace.map fun a => (a.write, a.pa, a.bytes)

/-- SW to a device is one write (20_memory R81, R86). -/
theorem test_sw_device : runs platform 0xAC220000#32
    (fun t => t.busTrace == [{ write := true, pa := 0x2000#32, bytes := 4, value := 5#64 }]) = true := by decide +kernel

/-- SWL to a device is a read and a full-width write (93 U4); LB of it is one read. -/
theorem test_swl_device : runs platform 0xA8220001#32
    (fun t => seen t == [(true, 0x2000#32, 4), (false, 0x2000#32, 4)]) = true
    ∧ runs platform 0x80230003#32 (fun t => seen t == [(false, 0x2003#32, 1)]) = true := by decide +kernel

/-- A write that nothing decodes, or to ROM, has no effect (93 U25). -/
theorem test_sw_lost : runs platform 0xAC220004#32 (fun t => t.mem == (platform.withFetchWord 32 0xAC220004).mem
      && seen t == []) = true
    ∧ runs platform 0xAC220008#32 (fun t => t.mem.read32 0x2008#32 == 0x99AABBCC#32 && seen t == []) = true := by
  decide +kernel

/-- What a load of a device gives is the platform's answer, whatever it is. -/
theorem test_lbu_device : exec (.lbu 3#5 1#5 0#16) platform = .next
    ((platform.afterRead 0x2000#32 1).setX 3#5 (zext64 ((platform.busAnswer 0x2000#32 1).setWidth 8))) := by rfl

theorem test_sc_without_reservation : runs (regs data [(2#5, 0xFFFFFFFF#64)]) 0xE0220000#32
    (fun t => t.x 2#5 == 0#64 && t.mem.read32 0x2000#32 == 0x00112233#32) = true := by decide +kernel

theorem test_ll_records_address : runs data 0xC0220000#32
    (fun t => t.llbit && t.x 2#5 == 0x00112233#64 && t.cp0.llAddr == 0x200#32) = true := by decide +kernel

theorem test_syscall : runs base 0x0000000C#32 (raised 8#5) = true := by decide +kernel

theorem test_break : runs base 0x000001CD#32 (raised 9#5) = true := by decide +kernel

theorem test_tgeu_unsigned : runs (regs base [(1#5, 1#64), (2#5, 0xFFFFFFFFFFFFFFFF#64)]) 0x00220031#32
    (fun t => !t.exl) = true := by decide +kernel

theorem test_reserved_word_raises : runs base 0x70000000#32 (raised 10#5) = true := by decide +kernel

theorem test_cop1_unusable : runs base 0x46041180#32
    (fun t => raised 11#5 t && t.cp0.cause.extractLsb' 28 2 == 1#2) = true := by decide +kernel

theorem test_mtc0_status_mask : runs (regs base [(2#5, 0xFFFFFFFFFFFFFFFB#64)]) 0x40826000#32
    (fun t => t.cp0.status == 0xFF57FFFB#32) = true := by decide +kernel

theorem test_mtc0_compare_clears_timer : runs ((regs base [(2#5, 5#64)]).setCp0 { base.cp0 with cause := 0x8000#32 })
    0x40825800#32 (fun t => t.cp0.compare == 5#32 && t.cp0.cause == 0#32) = true := by decide +kernel

theorem test_tlbwi_example : runs (base.setCp0 { base.cp0 with entryHi := 0x4000#64, entryLo0 := 0xC47#64, entryLo1 := 1#64 })
    0x42000002#32 (fun t => t.tlb[0] == entry) = true := by decide +kernel

theorem test_tlbp_miss : runs ((base.setTlb 0 entry).setCp0 { base.cp0 with entryHi := 0x8000#64 }) 0x42000008#32
    (fun t => t.cp0.index == 0x80000000#32) = true := by decide +kernel

theorem test_eret_from_error_level : runs { State.reset with llbit := true } 0x42000018#32
    (fun t => !t.llbit && !t.erl && t.pc == State.reset.cp0.errorEpc) = true := by decide +kernel

/-- Single-precision operands in f2 and f4 (FR = 0, CU1 = 1), as the examples of 47_fpu_arith use them. -/
def singles (a b : Dword) : State := fprs (under base 0x20000000#32) [(2#5, a), (4#5, b)]

theorem test_mtc1_keeps_high_half : runs (fprs (regs fpu [(2#5, 0x12345678#64)]) [(6#5, 0xAAAAAAAABBBBBBBB#64)]) 0x44823000#32
    (fun t => t.fprAt 6#5 == 0xAAAAAAAA12345678#64) = true := by decide +kernel

theorem test_ctc1_enabled_cause_traps : runs (regs (under base 0x20000000#32) [(2#5, 0x00010800#64)]) 0x44C2F800#32
    (fun t => raised 15#5 t && t.fcr31 == 0x00010800#32) = true := by decide +kernel

theorem test_add_s_example : runs (singles 0x3FC00000#64 0x40100000#64) 0x46041180#32
    (fun t => t.fgr32 6#5 == 0x40700000#32 && t.fcr31 == 0#32) = true := by decide +kernel

theorem test_add_s_invalid : runs (singles 0x7F800000#64 0xFF800000#64) 0x46041180#32
    (fun t => t.fgr32 6#5 == 0x7FBFFFFF#32 && t.fcr31 == 0x00010040#32) = true := by decide +kernel

theorem test_add_s_subnormal : runs (singles 0x7F800000#64 1#64) 0x46041180#32
    (fun t => raised 15#5 t && t.fcr31 == 0x00020000#32) = true := by decide +kernel

theorem test_div_s_inexact : runs (singles 0x3FC00000#64 0x40100000#64) 0x46041183#32
    (fun t => t.fgr32 6#5 == 0x3F2AAAAB#32 && t.fcr31 == 0x00001004#32) = true := by decide +kernel

theorem test_div_s_by_zero : runs (singles 0x3F800000#64 0#64) 0x46041183#32
    (fun t => t.fgr32 6#5 == 0x7F800000#32 && t.fcr31 == 0x00008020#32) = true := by decide +kernel

theorem test_sqrt_d_example : runs (singles 0x4000000000000000#64 0#64) 0x46201184#32
    (fun t => t.fgr64 6#5 == 0x3FF6A09E667F3BCD#64) = true := by decide +kernel

theorem test_mul_s_flushed : runs ((singles 0x00800000#64 0x3F000000#64).setFcr31 0x01000000#32) 0x46041182#32
    (fun t => t.fgr32 6#5 == 0#32 && t.fcr31 == 0x0100300C#32) = true := by decide +kernel

theorem test_cvt_s_w_rounds_up : runs ((singles 0x01000001#64 0#64).setFcr31 2#32) 0x468011A0#32
    (fun t => t.fgr32 6#5 == 0x4B800001#32) = true := by decide +kernel

theorem test_cvt_d_s_exact : runs (singles 0x3DCCCCCD#64 0#64) 0x460011A1#32
    (fun t => t.fgr64 6#5 == 0x3FB99999A0000000#64 && t.fcr31 == 0#32) = true := by decide +kernel

theorem test_c_le_d_equal_zeros : runs (singles 0x8000000000000000#64 0#64) 0x4624103E#32 (fun t => fcrC t.fcr31)
    = true := by decide +kernel

/-! ### Witnesses: states that meet the hypotheses of the obligations, clause by clause -/

/-- Supervisor, user and undefined mode by KSU, with EXL = ERL = 0. -/
def supervisor : State := under base 0x8#32
def user : State := under base 0x10#32

theorem test_witness_DecodeEncodeRoundTrip : (Instr.addi 31#5 0#5 0x8000#16).wellFormed = true := by decide

theorem test_witness_DecodedWordIsItsRow : decode 0xE0220000#32 = .ok (.sc 2#5 1#5 0#16) := by decide

theorem test_witness_UnallocatedWordRaisesRI : let s := base.withFetchWord 32 0x70000000
    s.mode ≠ .undefined ∧ s.beginStep.interruptCondition = false ∧ s.reaches s.pc 4 .fetch 0x1000#32
    ∧ ∀ i : Instr, i.row.holds (BitVec.ofNat 32 (s.beginStep.busNumber 0x1000#32 4)) = false := by
  refine ⟨by decide +kernel, by decide +kernel, ⟨by decide +kernel, by rfl⟩, fun i => ?_⟩
  rw [show BitVec.ofNat 32 _ = 0x70000000#32 by decide +kernel]
  cases i <;> simp [Instr.row, OpcodeRow.holds]

theorem test_witness_StepRunsDecodedInstruction : let s := base.withFetchWord 32 0x0000000C
    s.mode ≠ .undefined ∧ s.beginStep.interruptCondition = false ∧ s.reaches s.pc 4 .fetch 0x1000#32
    ∧ decode (BitVec.ofNat 32 (s.beginStep.busNumber 0x1000#32 4)) = .ok (.syscall 0#20) := by
  refine ⟨by decide +kernel, by decide +kernel, ⟨by decide +kernel, by rfl⟩, ?_⟩
  rw [show BitVec.ofNat 32 _ = 0x0000000C#32 by decide +kernel]
  decide

theorem test_witness_StepPrologue : (base.cp0.wired.extractLsb' 0 6 ≤ 31#6 ∧ base.randomPolicy = .decrement)
    ∧ { base with randomPolicy := .arbitrary }.randomPolicy = .arbitrary
    ∧ (base.setCp0 { base.cp0 with wired := 31#32 }).cp0.wired.extractLsb' 0 6 ≤ 31#6 := by decide

theorem test_witness_ModesAreDerived : base.mode = .kernel ∧ supervisor.mode = .supervisor ∧ user.mode = .user
    ∧ (under base 0x18#32).cp0.status.getLsbD 1 = false ∧ (under base 0x18#32).cp0.status.getLsbD 2 = false
    ∧ (under base 0x18#32).cp0.status.extractLsb' 3 2 = 3#2 := by decide

/-- IE and IM[0] set, IP[0] pending. -/
def interrupted : State := (under base 0x101#32).setCp0 { (under base 0x101#32).cp0 with cause := 0x100#32 }

theorem test_witness_InterruptTakenFirst : interrupted.mode ≠ .undefined
    ∧ interrupted.beginStep.interruptCondition = true
    ∧ { interrupted with branchPending := true }.beginStep.interruptCondition = true := by decide +kernel

theorem test_witness_StepKeepsLegal : State.reset.legal = true ∧ gives (step State.reset) (fun _ => true) = true := by
  decide +kernel

theorem test_witness_VectorsAreUnmapped : let boot := under base 0x400000#32
    (base.bev = false ∧ Exc.sys.isMiss = false) ∧ (base.exl = false ∧ (Exc.tlbl true).isMiss = true)
    ∧ base.addr64 = false ∧ (under base 0x80#32).addr64 = true ∧ (under base 0x80#32).bev = false
    ∧ (under base 0x2#32).exl = true ∧ boot.bev = true ∧ boot.exl = false ∧ boot.addr64 = false
    ∧ (under base 0x400080#32).bev = true ∧ (under base 0x400080#32).addr64 = true := by decide

theorem test_witness_EretReturns : base.kernelMode = true ∧ (under base 0x10000010#32).kernelMode = false
    ∧ (under base 0x10000010#32).cu0 = true := by decide

theorem test_witness_ExceptionsArePrecise : base.exl = false ∧ gives (exec (.syscall 0#20) base) State.exl = true
    ∧ gives (exec (.lw 2#5 0#5 2#16) base) State.exl = true ∧ gives (exec (.divS 6#5 7#5 8#5) base) State.exl = true := by
  decide +kernel

theorem test_witness_DelaySlotFaultReturnsToBranch (b : Bool) :
    let s := { base.withFetchWord 32 0x0000000C with branchPending := b }
    s.exl = false ∧ gives (step s) State.exl = true
    ∧ ∀ pa rt rd, s.translate s.pc .fetch = .ok pa →
        let w := s.beginStep.bus32 pa
        decode w ≠ .ok (.mtc0 rt rd) ∧ decode w ≠ .ok (.dmtc0 rt rd) := by
  refine ⟨by cases b <;> decide +kernel, by cases b <;> decide +kernel, fun pa rt rd h => ?_⟩
  cases b
  all_goals
    obtain rfl : 0x1000#32 = pa := Except.ok.inj (Eq.trans (Eq.symm (by decide +kernel)) h)
    intro w
    rw [show w = 0x0000000C#32 by decide +kernel,
      show decode 0x0000000C#32 = .ok (.syscall 0#20) by decide]
    simp

theorem test_witness_InstructionFrame : data.mem.wf = true
    ∧ gives (exec (.sdr 2#5 1#5 5#16) data) (fun t => !t.exl) = true
    ∧ gives (exec (.lw 2#5 1#5 2#16) data) State.exl = true := by decide +kernel

theorem test_witness_WrittenOnlyBy : gives (exec (.ll 2#5 1#5 0#16) data) State.llbit = true
    ∧ gives (exec (.tlbwi) base) (fun t => t.tlb[0].initialized) = true
    ∧ gives (exec (.mult 1#5 2#5) base) (fun _ => true) = true
    ∧ gives (exec (.compareFmt .double 2#4 0#5 0#5) fpu) (fun t => fcrC t.fcr31) = true
    ∧ gives (exec (.mtc0 1#5 30#5) data) (fun t => t.cp0.errorEpc == 0xFFFFFFFF80002000#64) = true
    ∧ gives (exec .eret base) (fun t => !t.llbit) = true := by decide +kernel

theorem test_witness_UserModeIsConfined : user64.mode = .user ∧ user64.cu0 = false
    ∧ gives (step user64) (fun t => t.mode == .kernel) = true
    ∧ gives (step (user64.setTlb 0 entry)) (fun t => t.mode == .user) = true := by decide +kernel

theorem test_witness_PcRedirectsAfterOneInstruction : runs base 0#32 (fun t => t.pc == 0xFFFFFFFF80001004#64) = true
    ∧ runs base 0x54200003#32 (fun t => t.pc == 0xFFFFFFFF80001008#64) = true
    ∧ runs base 0x42000018#32 (fun t => t.pc == 0#64) = true ∧ runs base 0x0000000C#32 State.exl = true := by
  decide +kernel

theorem test_witness_ChecksBeforeExecution : Instr.eret.needsCop0 = true ∧ user.kernelMode = false ∧ user.cu0 = false
    ∧ (Instr.sdc1 0#5 0#5 0#16).needsCop1 = true ∧ (Instr.bc1t 0#16).needsCop1 = true ∧ base.cu1 = false
    ∧ base.cu2 = false ∧ (under base 0x40000000#32).cu2 = true
    ∧ (Instr.dmfc1 0#5 0#5).needs64 = true ∧ (Instr.lwu 0#5 0#5 0#16).needs64 = true ∧ user.ops64 = false
    ∧ (under base 0x30000010#32).ops64 = false ∧ (under base 0x30000010#32).cu1 = true
    ∧ (under base 0x30000010#32).cu0 = true ∧ base.kernelMode = true := by decide

/-- User mode without 64-bit operations, CU1 set, an address of `entry` in register 1: LDC1 and SDC1 reach the bus. -/
theorem test_witness_ChecksBeforeExecution_ldc1 :
    let s := (regs (under base 0x20000010#32) [(1#5, 0x4000#64)]).setTlb 0 entry
    s.cu1 = true ∧ s.ops64 = false ∧ s.mem.wf = true ∧ s.reaches (s.effectiveAddress 1#5 8#16) 8 .load 0x31008#32
    ∧ s.reaches (s.effectiveAddress 1#5 8#16) 8 .store 0x31008#32 :=
  ⟨by decide +kernel, by decide +kernel, by decide +kernel, ⟨by decide +kernel, by rfl⟩, ⟨by decide +kernel, by rfl⟩⟩

theorem test_witness_MemoryIsBigEndian : data.mem.wf = true ∧ (0xFFFFFFF8#32).toNat % 8 = 0
    ∧ (0xFFFFFFFC#32).toNat % 4 = 0 ∧ (0xFFFFFFFE#32).toNat % 2 = 0
    ∧ platform.busKind 0x2000#32 = .device ∧ platform.busKind 0x2003#32 = .device
    ∧ platform.busKind 0x2004#32 = .undecoded ∧ platform.busKind 0x2007#32 = .undecoded
    ∧ platform.busKind 0x2008#32 = .rom ∧ platform.busKind 0x200F#32 = .rom
    ∧ (∀ r ∈ platform.busMap, (0x2010#32 : Word) < r.first ∨ r.last < 0x2010#32)
    ∧ (∀ r ∈ platform.busMap, (0x1FFF#32 : Word) < r.first ∨ r.last < 0x1FFF#32) := by decide +kernel

theorem test_witness_Segments32 : (base.addr64 = false ∧ base.mode = .kernel)
    ∧ (supervisor.addr64 = false ∧ supervisor.mode = .supervisor) ∧ (user.addr64 = false ∧ user.mode = .user)
    ∧ (0x80000000#64).toInt = 2 ^ 31 ∧ (0x7FFFFFFF#64).toInt = 2 ^ 31 - 1 ∧ (0xFFFFFFFF80000000#64).toInt = -0x80000000
    ∧ (0xFFFFFFFF7FFFFFFF#64).toInt < -2 ^ 31 ∧ (0xFFFFFFFFA0000000#64).toInt = -0x60000000
    ∧ (0xFFFFFFFFC0000000#64).toInt = -0x40000000 ∧ (0xFFFFFFFFE0000000#64).toInt = -0x20000000 := by decide

theorem test_witness_Segments64 : ((under base 0x80#32).addr64 = true ∧ (under base 0x80#32).mode = .kernel)
    ∧ ((under base 0x48#32).addr64 = true ∧ (under base 0x48#32).mode = .supervisor)
    ∧ (user64.addr64 = true ∧ user64.mode = .user)
    ∧ (0xFFFFFFFFFF#64).toNat < 2 ^ 40 ∧ (0x10000000000#64).toNat = 2 ^ 40
    ∧ (0x4000000000000000#64).toNat = 2 ^ 62 ∧ (0x400000FFFFFFFFFF#64).toNat < 2 ^ 62 + 2 ^ 40
    ∧ (0x8000000000000000#64).toNat = 2 ^ 63 ∧ (0x9000000012345678#64).toNat / 2 ^ 32 % 2 ^ 27 = 0
    ∧ (0xC000000000000000#64).toNat = 2 ^ 63 + 2 ^ 62 ∧ (0xC00000FF7FFFFFFF#64).toNat + 1 = 2 ^ 63 + 2 ^ 62 + 2 ^ 40 - 2 ^ 31
    ∧ (0xFFFFFFFF80000000#64).toNat = 2 ^ 64 - 0x80000000 ∧ (0xFFFFFFFFA0000000#64).toNat = 2 ^ 64 - 0x60000000
    ∧ (0xFFFFFFFFC0000000#64).toNat = 2 ^ 64 - 0x40000000 ∧ (0xFFFFFFFFE0000000#64).toNat = 2 ^ 64 - 0x20000000 := by
  decide

/-- A page pair of the largest size, of the addresses from 2^25 on. -/
def bigEntry : TlbEntry := { entry with mask := 0xFFF#12, vpn2 := 0x1000#27, global := false }

/-- Entry 0 of 4 KB pages, entry 1 of 16 MB pages. -/
def paired : State := (base.setTlb 0 entry).setTlb 1 bigEntry

theorem test_witness_TlbLookupFirstMatch : let size : Fin 32 → Nat := fun j => if j = 1 then 6 else 0
    (∀ j, size j ≤ 6 ∧ (paired.tlb[j]).mask.toNat = 4 ^ size j - 1)
    ∧ ((0x4ABC#64).toNat % 2 ^ 40 / 8192 * 8192 = (paired.tlb[0]).vpn2.toNat * 8192 ∧ (paired.tlb[0]).global = true)
    ∧ ((0x3000000#64).toNat % 2 ^ 40 / 2 ^ 25 * 2 ^ 25 = (paired.tlb[1]).vpn2.toNat * 8192
        ∧ (paired.tlb[1]).asid = paired.asid ∧ (0x3000000#64).toNat / 2 ^ 24 % 2 = 1)
    ∧ tlbLookup paired.tlb 0#8 0x6000#64 .load = .error .miss := by
  refine ⟨by decide +kernel, by decide +kernel, by decide +kernel, by rfl⟩

theorem test_witness_TlbwiThenAccess : let s := base.setCp0 { base.cp0 with entryHi := 0x4000#64, entryLo0 := 0xC47#64 }
    s.kernelMode = true ∧ s.cp0.index.extractLsb' 0 6 = 0#6 ∧ s.cp0.pageMask.extractLsb' 13 12 = 0#12
    ∧ region s.mode s.addr64 0x4ABC#64 = .mapped
    ∧ (0x4ABC#64).extractLsb' 13 27 = s.cp0.entryHi.extractLsb' 13 27
    ∧ (0x5FFF#64).extractLsb' 13 27 = s.cp0.entryHi.extractLsb' 13 27
    ∧ (0x4ABC#64).extractLsb' 62 2 = s.cp0.entryHi.extractLsb' 62 2 := by decide

theorem test_witness_MisalignedAccessRaises : (Instr.ld 2#5 1#5 7#16).usable data
    ∧ (Instr.ld 2#5 1#5 7#16).loadAccess = some (1#5, 7#16, 8) ∧ (data.effectiveAddress 1#5 7#16).toNat % 8 ≠ 0
    ∧ (Instr.sh 2#5 1#5 1#16).usable data ∧ (Instr.sh 2#5 1#5 1#16).storeAccess = some (1#5, 1#16, 2)
    ∧ (data.effectiveAddress 1#5 1#16).toNat % 2 ≠ 0
    ∧ { base with pc := 0xFFFFFFFF80001002#64 }.pc.toNat % 4 ≠ 0 ∧ base.mode ≠ .undefined
    ∧ { base with pc := 0xFFFFFFFF80001002#64 }.beginStep.interruptCondition = false :=
  ⟨⟨by decide, by decide, by decide⟩, by decide, by decide +kernel, ⟨by decide, by decide, by decide⟩, by decide,
    by decide +kernel, by decide, by decide, by decide +kernel⟩

/-- A mapped even page that may not be stored to, and its odd page, invalid. -/
def clean : State := base.setTlb 0 { entry with lo0 := { entry.lo0 with d := false } }

theorem test_witness_TranslationFailureRaises : (Instr.lw 2#5 0#5 0x4ABC#16).usable clean
    ∧ (Instr.sc 2#5 0#5 0x4ABC#16).usable { clean with llbit := true }
    ∧ clean.effectiveAddress 0#5 0x4ABC#16 = 0x4ABC#64
    ∧ base.translate 0x4ABC#64 .load = .error .miss ∧ clean.translate 0x5ABC#64 .load = .error .invalid
    ∧ clean.translate 0x4ABC#64 .store = .error .modified ∧ base.translate 0x80000000#64 .store = .error .disallowed
    ∧ user.translate 0xFFFFFFFF80001000#64 .fetch = .error .disallowed
    ∧ user.beginStep.interruptCondition = false ∧ user.mode ≠ .undefined :=
  ⟨⟨by decide, by decide, by decide⟩, ⟨by decide, by decide, by decide⟩, by decide, by rfl, by rfl, by rfl, by rfl,
    by rfl, by decide +kernel, by decide⟩

theorem test_witness_CheckedArithmetic : low32 0x7FFFFFFF#64 + low32 0#64 = 2 ^ 31 - 1
    ∧ low32 0x7FFFFFFF#64 + low32 1#64 = 2 ^ 31 ∧ low32 0xFFFFFFFF80000000#64 - low32 1#64 = -2 ^ 31 - 1
    ∧ low32 0xFFFFFFFF80000000#64 - low32 0#64 = -2 ^ 31 ∧ base.ops64 = true
    ∧ (0x7FFFFFFFFFFFFFFF#64).toInt + (0#64).toInt = 2 ^ 63 - 1 ∧ (0x7FFFFFFFFFFFFFFF#64).toInt + (1#16).toInt = 2 ^ 63 := by
  decide

theorem test_witness_UncheckedArithmetic : base.ops64 = true := by decide
theorem test_witness_Shifts : base.ops64 = true := by decide
theorem test_witness_ProductsAndMoves : base.ops64 = true := by decide

theorem test_witness_Division : base.ops64 = true ∧ low32 0#64 = 0 ∧ low32 0x80000000#64 = -2 ^ 31
    ∧ low32 0xFFFFFFFFFFFFFFFF#64 = -1 ∧ (0x8000000000000000#64).toInt = -2 ^ 63 ∧ low32u 0x100000000#64 = 0 := by decide

theorem test_witness_BranchesAndJumps : fpu.cu1 = true ∧ base.x 1#5 = base.x 2#5 ∧ data.x 1#5 ≠ data.x 2#5
    ∧ (data.x 1#5).toInt < 0 ∧ fpu.fcr31.getLsbD 23 = false := by decide +kernel

theorem test_witness_LikelyBranches : fpu.cu1 = true ∧ base.x 1#5 = base.x 2#5 ∧ data.x 1#5 ≠ data.x 2#5
    ∧ (fpu.setFcr31 0x800000#32).fcr31.getLsbD 23 = true := by decide +kernel

/-- Addresses at both ends of KSEG0 reach memory at every width. -/
theorem test_witness_AlignedLoads : data.ops64 = true
    ∧ data.reaches (data.effectiveAddress 1#5 7#16) 1 .load 0x2007#32
    ∧ data.reaches (data.effectiveAddress 1#5 6#16) 2 .load 0x2006#32
    ∧ data.reaches (data.effectiveAddress 1#5 4#16) 4 .load 0x2004#32
    ∧ data.reaches (data.effectiveAddress 1#5 0#16) 8 .load 0x2000#32
    ∧ data.reaches 0xFFFFFFFF9FFFFFF8#64 8 .load 0x1FFFFFF8#32 :=
  ⟨by decide +kernel, ⟨by decide +kernel, by rfl⟩, ⟨by decide +kernel, by rfl⟩, ⟨by decide +kernel, by rfl⟩,
    ⟨by decide +kernel, by rfl⟩, ⟨by decide +kernel, by rfl⟩⟩

theorem test_witness_AlignedStores : data.mem.wf = true ∧ data.ops64 = true
    ∧ data.reaches (data.effectiveAddress 1#5 7#16) 1 .store 0x2007#32
    ∧ data.reaches (data.effectiveAddress 1#5 6#16) 2 .store 0x2006#32
    ∧ data.reaches (data.effectiveAddress 1#5 4#16) 4 .store 0x2004#32
    ∧ data.reaches (data.effectiveAddress 1#5 0#16) 8 .store 0x2000#32 :=
  ⟨by decide +kernel, by decide +kernel, ⟨by decide +kernel, by rfl⟩, ⟨by decide +kernel, by rfl⟩,
    ⟨by decide +kernel, by rfl⟩, ⟨by decide +kernel, by rfl⟩⟩

theorem test_witness_UnalignedLoads : data.translate (data.effectiveAddress 1#5 0#16) .load = .ok 0x2000#32
    ∧ data.translate (data.effectiveAddress 1#5 7#16) .load = .ok 0x2007#32 ∧ data.ops64 = true :=
  ⟨by rfl, by rfl, by decide +kernel⟩

theorem test_witness_UnalignedStores : data.mem.wf = true
    ∧ data.translate (data.effectiveAddress 1#5 0#16) .store = .ok 0x2000#32
    ∧ data.translate (data.effectiveAddress 1#5 7#16) .store = .ok 0x2007#32 ∧ data.ops64 = true :=
  ⟨by decide +kernel, by rfl, by rfl, by decide +kernel⟩

theorem test_witness_UnalignedPairs (kind : Access) : data.mem.wf = true ∧ data.ops64 = true
    ∧ data.effectiveAddress 1#5 4#16 = data.effectiveAddress 1#5 1#16 + BitVec.ofNat 64 (4 - 1)
    ∧ data.effectiveAddress 1#5 8#16 = data.effectiveAddress 1#5 1#16 + BitVec.ofNat 64 (8 - 1)
    ∧ data.translate (data.effectiveAddress 1#5 1#16) kind = .ok 0x2001#32
    ∧ data.translate (data.effectiveAddress 1#5 4#16) kind = .ok 0x2004#32
    ∧ data.translate (data.effectiveAddress 1#5 8#16) kind = .ok 0x2008#32
    ∧ (0x2004#32).toNat = (0x2001#32).toNat + (4 - 1) ∧ (0x2008#32).toNat = (0x2001#32).toNat + (8 - 1)
    ∧ data.busKind 0x2000#32 = .ram ∧ data.busKind 0x2004#32 = .ram ∧ data.busKind 0x2008#32 = .ram
    ∧ platform.isMemory 0x2008#32 = true :=
  ⟨by decide +kernel, by decide +kernel, by decide +kernel, by decide +kernel, by rfl, by rfl, by rfl, by decide,
    by decide, by decide +kernel, by decide +kernel, by decide +kernel, by decide +kernel⟩

theorem test_witness_LoadLinkedStoreConditional : let s := { data with llbit := true }
    s.mem.wf = true ∧ s.llbit = true ∧ s.ops64 = true ∧ s.reaches (s.effectiveAddress 1#5 4#16) 4 .load 0x2004#32
    ∧ s.reaches (s.effectiveAddress 1#5 8#16) 8 .load 0x2008#32 ∧ s.reaches (s.effectiveAddress 1#5 4#16) 4 .store 0x2004#32
    ∧ s.reaches (s.effectiveAddress 1#5 8#16) 8 .store 0x2008#32 ∧ data.llbit = false
    ∧ (data.effectiveAddress 0#5 4#16).toNat % 4 = 0 ∧ (data.effectiveAddress 0#5 8#16).toNat % 8 = 0 :=
  ⟨by decide +kernel, by decide +kernel, by decide +kernel, ⟨by decide +kernel, by rfl⟩, ⟨by decide +kernel, by rfl⟩,
    ⟨by decide +kernel, by rfl⟩, ⟨by decide +kernel, by rfl⟩, by decide +kernel, by decide +kernel, by decide +kernel⟩

theorem test_witness_FpLoadsAndStores : let s := under data 0x20000000#32
    s.cu1 = true ∧ s.mem.wf = true ∧ s.reaches (s.effectiveAddress 1#5 4#16) 4 .load 0x2004#32
    ∧ s.reaches (s.effectiveAddress 1#5 8#16) 8 .load 0x2008#32 ∧ s.reaches (s.effectiveAddress 1#5 4#16) 4 .store 0x2004#32
    ∧ s.reaches (s.effectiveAddress 1#5 8#16) 8 .store 0x2008#32 :=
  ⟨by decide +kernel, by decide +kernel, ⟨by decide +kernel, by rfl⟩, ⟨by decide +kernel, by rfl⟩,
    ⟨by decide +kernel, by rfl⟩, ⟨by decide +kernel, by rfl⟩⟩

theorem test_witness_TrapsAndBarriers : (base.x 2#5).toInt ≤ (base.x 1#5).toInt ∧ (data.x 1#5).toInt < (data.x 2#5).toInt
    ∧ (data.x 2#5).toNat < (data.x 1#5).toNat ∧ (BitVec.ofInt 64 (0xFFFF#16).toInt).toNat = 2 ^ 64 - 1 := by decide +kernel

theorem test_witness_Cp0Reads : base.kernelMode = true ∧ (under base 0x10000010#32).cu0 = true ∧ base.ops64 = true
    ∧ base.cp0.read 7#5 = Config.reservedCp0Read ∧ base.cp0.read 25#5 = Config.reservedCp0Read
    ∧ exec (.dmfc0 2#5 31#5) base = .next (base.setX 2#5 Config.reservedCp0Read) :=
  ⟨by decide, by decide, by decide, rfl, rfl, rfl⟩

theorem test_witness_Cp0Writes : base.kernelMode = true ∧ (under base 0x10000010#32).cu0 = true ∧ base.ops64 = true := by
  decide

theorem test_witness_TlbInstructions : base.kernelMode = true ∧ base.cp0.index.toNat % 64 = 0
    ∧ (31#32).toNat % 64 = 31 ∧ (32#32).toNat % 64 = 32 ∧ base.cp0.random.toNat = 31
    ∧ base.cp0.wired.extractLsb' 0 6 ≤ 31#6 ∧ 31#6 < (32#32).extractLsb' 0 6
    ∧ (∀ j : Fin 32, (base.tlb[j]).initialized = false)
    ∧ ((base.setTlb 0 entry).tlb[0]).vpn2 = (0x4000#64).extractLsb' 13 27 := by decide +kernel

theorem test_witness_FpRegisterViews : base.fr = false ∧ (31#5).getLsbD 0 = true ∧ (30#5).getLsbD 0 = false
    ∧ fpu.fr = true := by decide

theorem test_witness_FpuMoves : fpu.cu1 = true ∧ fpu.ops64 = true
    ∧ ((0#32).getLsbD 17 = false ∧ (0#32).extractLsb' 12 5 &&& (0#32).extractLsb' 7 5 = 0#5)
    ∧ (0x20000#32).getLsbD 17 = true ∧ (0x10800#32).extractLsb' 12 5 &&& (0x10800#32).extractLsb' 7 5 ≠ 0#5 := by decide

/-- FPRs of each class in a format: f0 plus zero, f1 minus zero, f2 one and a half, f3 its negative, f4 plus
infinity, f5 minus infinity, f6 the largest subnormal, f7 a Q-NaN, f8 an S-NaN, f9 the smallest normal, f10 the
largest. -/
def operands (f : FpFmt) : State :=
  fprs fpu (match f with
    | .single => [(1#5, 0x80000000#64), (2#5, 0x3FC00000#64), (3#5, 0xBFC00000#64), (4#5, 0x7F800000#64),
        (5#5, 0xFF800000#64), (6#5, 0x007FFFFF#64), (7#5, 0x7FBFFFFF#64), (8#5, 0x7FC00000#64), (9#5, 0x00800000#64),
        (10#5, 0x7F7FFFFF#64)]
    | .double => [(1#5, 0x8000000000000000#64), (2#5, 0x3FF8000000000000#64), (3#5, 0xBFF8000000000000#64),
        (4#5, 0x7FF0000000000000#64), (5#5, 0xFFF0000000000000#64), (6#5, 0x000FFFFFFFFFFFFF#64),
        (7#5, 0x7FF7FFFFFFFFFFFF#64), (8#5, 0x7FF8000000000000#64), (9#5, 0x0010000000000000#64),
        (10#5, 0x7FEFFFFFFFFFFFFF#64)])

/-- The classes of those operands are the hypotheses of the floating-point statements. -/
def classes (f : FpFmt) : Bool :=
  let s := operands f
  let v := s.fpRead f
  s.cu1 && decide (f.isZero (v 0#5)) && decide (f.isZero (v 1#5)) && f.neg (v 1#5) && decide (f.isNormal (v 2#5))
    && decide (f.isNormal (v 3#5)) && f.neg (v 3#5) && decide (f.isInf (v 4#5)) && decide (f.isInf (v 5#5))
    && f.neg (v 5#5) && decide (f.isSubnormal (v 6#5)) && decide (f.refuses (v 6#5)) && decide (f.isQNaN (v 7#5))
    && decide (f.refuses (v 7#5)) && decide (f.isSNaN (v 8#5)) && !decide (f.refuses (v 8#5))
    && decide (f.isNormal (v 9#5)) && decide (f.isNormal (v 10#5)) && !f.neg (v 2#5) && !f.neg (v 4#5)

theorem test_witness_FpAddSub : classes .single = true ∧ classes .double = true := by decide +kernel
theorem test_witness_FpMulDivSqrt : classes .single = true ∧ classes .double = true := by decide +kernel
theorem test_witness_FpSpecialOperands : classes .single = true ∧ classes .double = true := by decide +kernel
theorem test_witness_FpAbsNegMov : classes .single = true ∧ classes .double = true := by decide +kernel

/-- The operands at the ends of the ranges: 2^31 - 1 and 2^31 for W, 2^53 - 1 and 2^53 for L. -/
theorem test_witness_FpToFixedPoint : classes .double = true
    ∧ FpFmt.double.number 0x41DFFFFFFFC00000#64 = 2147483647 ∧ FxFmt.word.inRange 2147483647 2147483647
    ∧ FpFmt.double.number 0x41E0000000000000#64 = 2147483648 ∧ ¬ FxFmt.word.inRange 2147483648 2147483648
    ∧ FpFmt.double.number 0x433FFFFFFFFFFFFF#64 = 9007199254740991 ∧ FxFmt.long.inRange 9007199254740991 9007199254740991
    ∧ FpFmt.double.number 0x4340000000000000#64 = 9007199254740992
    ∧ ¬ FxFmt.long.inRange 9007199254740992 9007199254740992 := by
  refine ⟨by decide +kernel, ?_, ?_, ?_, ?_, ?_, ?_, ?_, ?_⟩ <;>
    norm_num [FpFmt.number, FpFmt.neg, FpFmt.expField, FpFmt.fracField, FpFmt.frac, FpFmt.expBits, FpFmt.bias,
      FxFmt.inRange] <;> decide

theorem test_witness_FpFromFixedPointAndBetweenFormats : classes .single = true ∧ classes .double = true
    ∧ (fprs fpu [(2#5, 0x007FFFFFFFFFFFFF#64)]).fxRead .long 2#5 = 2 ^ 55 - 1
    ∧ (fprs fpu [(2#5, 0x0080000000000000#64)]).fxRead .long 2#5 = 2 ^ 55
    ∧ (fprs fpu [(2#5, 0xFF80000000000000#64)]).fxRead .long 2#5 = -2 ^ 55
    ∧ (fprs fpu [(2#5, 0xFF7FFFFFFFFFFFFF#64)]).fxRead .long 2#5 = -2 ^ 55 - 1
    ∧ fpu.fxRead .word 2#5 = 0 ∧ (fprs fpu [(2#5, 0x80000000#64)]).fxRead .word 2#5 = -2 ^ 31 := by decide +kernel

theorem test_witness_FpComparisons : classes .single = true ∧ classes .double = true
    ∧ (operands .single).fcr31.getLsbD 11 = false ∧ (fpu.setFcr31 0x800#32).fcr31.getLsbD 11 = true
    ∧ (8#4).getLsbD 3 = true ∧ (7#4).getLsbD 3 = false := by decide +kernel

theorem test_witness_FpOperationsComplete : let s := (operands .double).setFcr31 0x01000000#32
    s.cu1 = true ∧ fcrEnable s.fcr31 = 0#5 ∧ s.fcr31.getLsbD 24 = true
    ∧ ¬ FpFmt.double.refuses (s.fpRead .double 2#5) ∧ ¬ FpFmt.double.refuses (s.fpRead .double 8#5)
    ∧ FpFmt.double.isNormal (s.fpRead .double 2#5) ∧ s.fxRead .long 0#5 < 2 ^ 55 := by decide +kernel

/-- -2^31 is in the range of W, 2^31 - 1 too, each its own rounding; 2^53 - 1 is in the range of L. -/
theorem test_witness_FpOperationsComplete_ranges (mode : Rounding) :
    FpFmt.double.number 0xC1E0000000000000#64 = -2147483648 ∧ FxFmt.word.inRange (-2147483648) (-2147483648)
    ∧ roundedToInt mode (-2147483648) (-2147483648) ∧ FpFmt.double.number 0x41DFFFFFFFC00000#64 = 2147483647
    ∧ FxFmt.word.inRange 2147483647 2147483647 ∧ roundedToInt mode 2147483647 2147483647
    ∧ FxFmt.long.inRange 9007199254740991 9007199254740991 := by
  refine ⟨?_, ?_, ?_, ?_, ?_, ?_, ?_⟩
  · norm_num [FpFmt.number, FpFmt.neg, FpFmt.expField, FpFmt.fracField, FpFmt.frac, FpFmt.expBits, FpFmt.bias]
    decide
  · norm_num [FxFmt.inRange]
  · cases mode <;> norm_num [roundedToInt]
  · norm_num [FpFmt.number, FpFmt.neg, FpFmt.expField, FpFmt.fracField, FpFmt.frac, FpFmt.expBits, FpFmt.bias]
    decide
  · norm_num [FxFmt.inRange]
  · cases mode <;> norm_num [roundedToInt]
  · norm_num [FxFmt.inRange]

end Sys2Proof.Tests
end

section
/-!
Proofs/Updates: what an instruction can do, said once. Every arm of `exec` is a sequence of a few updates of the
state, or ends in an exception entered from a state that differs by the failing address or by FCR31 only. The
statements about all instructions (10_state) go through `exec_answer` and one case per update, not one per
instruction.
-/

namespace Sys2Proof.Machine

open Relation (ReflTransGen)

/-! ### The updates and the answers -/

/-- The instructions that write `hi` and `lo` (10_state R26). -/
def writesHiLo : Instr → Bool
  | .mult .. | .multu .. | .div .. | .divu .. | .dmult .. | .dmultu .. | .ddiv .. | .ddivu .. => true
  | .mthi _ | .mtlo _ => true
  | _ => false

/-- FCR31 differs at most in the cause and flag bits, which the signals of 47_fpu_arith R432 write. -/
def sameBesidesSignals (f g : Word) : Prop := g &&& ~~~0x0003F07C#32 = f &&& ~~~0x0003F07C#32

/-- One update of the state in the course of the instruction `i`. Those that only some instructions make say
which. -/
inductive Update (i : Instr) : State → State → Prop
  | gpr (s : State) (r : Reg) (v : Dword) : Update i s (s.setX r v)
  | hiLo (s : State) (h l : Dword) (hi : writesHiLo i = true) : Update i s (s.setHiLo h l)
  | branch (s : State) (c : Bool) (a : Dword) : Update i s (s.branch c a)
  | branchLikely (s : State) (c : Bool) (a : Dword) : Update i s (s.branchLikely c a)
  | busRead (s : State) (pa : Word) (n : Nat) : Update i s (s.afterRead pa n)
  | busWrite (s : State) (pa : Word) (n : Nat) (v : Dword) (m : Memory) (hm : s.mem.wf = true → m.wf = true) :
      Update i s (s.busWrite pa n v m)
  | reserve (s : State) (pa : Word) (hi : ∃ r b o, i = .ll r b o ∨ i = .lld r b o) : Update i s (s.setReservation pa)
  | fpr (s : State) (f : BitVec 5) (v : Dword) : Update i s (s.setFpr f v)
  | fpSignals (s : State) (f : Word) (hf : sameBesidesSignals s.fcr31 f) : Update i s (s.setFcr31 f)
  | fpCompare (s : State) (c : Bool) (hi : ∃ f k a b, i = .compareFmt f k a b) :
      Update i s (s.setFcr31 (fcrSetC s.fcr31 c))
  | fpControl (s : State) (v : Word) (hi : ∃ r, i = .ctc1 r 31#5) : Update i s (s.setFcr31 (v &&& 0x0183FFFF#32))
  | cp0Write (s : State) (n : BitVec 5) (v : Dword) (hi : ∃ r, i = .mtc0 r n ∨ i = .dmtc0 r n) :
      Update i s (s.setCp0 (s.cp0.write n v))
  | tlbRead (s : State) (e : TlbEntry) (hi : i = .tlbr) : Update i s (s.setCp0 (s.cp0.readTlbEntry e))
  | tlbWrite (s : State) (k : Fin 32) (hi : i = .tlbwi ∨ i = .tlbwr) : Update i s (s.setTlb k s.cp0.tlbEntry)
  | tlbProbe (s : State) (hi : i = .tlbp) :
      Update i s (s.setCp0 { s.cp0 with index := tlbProbe s.tlb s.cp0.entryHi })
  | eret (s : State) (hi : i = .eret) : Update i s s.returnFromException

/-- The states in which the instruction `i`, run in `s`, takes its exceptions: `s` itself, or `s` with the failing
address recorded (20_memory R99), or with FCR31 written (47_fpu_arith R432, 46_fpu_move R407). -/
inductive RaisesIn (i : Instr) (s : State) : State → Prop
  | unchanged : RaisesIn i s s
  | failingAddress (va : Dword) : RaisesIn i s (s.recordFaultAddress va)
  | fpSignals (f : Word) (hf : sameBesidesSignals s.fcr31 f) : RaisesIn i s (s.setFcr31 f)
  | fpControl (v : Word) (hi : ∃ r, i = .ctc1 r 31#5) : RaisesIn i s (s.setFcr31 (v &&& 0x0183FFFF#32))

/-- Everything the instruction `i` can answer in `s`: the entry of an exception, or the end of a sequence of its
updates. -/
inductive Answer (i : Instr) (s : State) : State → Prop
  | raised {u : State} (h : RaisesIn i s u) (e : Exc) : Answer i s (u.takeException e)
  | completed {t : State} (h : ReflTransGen (Update i) s t) : Answer i s t

/-- Whatever next state a result gives is an answer of the instruction. -/
def Answers (i : Instr) (s : State) (r : Result) : Prop := ∀ t, r = .next t → Answer i s t

variable {i : Instr} {s t u : State}

/-! ### Results -/

theorem Answers.next (h : ReflTransGen (Update i) s u) : Answers i s (.next u) := by
  rintro t ⟨⟩
  exact .completed h

/-- A single update. -/
theorem Answers.one (h : Update i s u) : Answers i s (.next u) := .next (.single h)

/-- Two updates, one after the other. -/
theorem Answers.two (h : Update i s t) (k : Update i t u) : Answers i s (.next u) := .next (.tail (.single h) k)

theorem Answers.refused (r : Refusal) : Answers i s (.refused r) := nofun

theorem Answers.raise (h : RaisesIn i s u) (e : Exc) : Answers i s (u.raise e) := by
  rintro t ⟨⟩
  exact .raised h e

/-! ### The checks of a handler -/

theorem Answers.check64 {k : Result} (h : Answers i s k) : Answers i s (s.check64 k) := by
  intro t ht
  obtain ⟨-, ht⟩ | rfl := State.check64_next ht
  · exact h t ht
  · exact .raised .unchanged _

theorem Answers.checkCop0 {k : Result} (h : Answers i s k) : Answers i s (s.checkCop0 k) := by
  intro t ht
  obtain ⟨-, ht⟩ | rfl := State.checkCop0_next ht
  · exact h t ht
  · exact .raised .unchanged _

theorem Answers.checkCop1 {k : Result} (h : Answers i s k) : Answers i s (s.checkCop1 k) := by
  intro t ht
  obtain ⟨-, ht⟩ | rfl := State.checkCop1_next ht
  · exact h t ht
  · exact .raised .unchanged _

theorem Answers.checkCop2 {k : Result} (h : Answers i s k) : Answers i s (s.checkCop2 k) := by
  intro t ht
  obtain ⟨-, ht⟩ | rfl := State.checkCop2_next ht
  · exact h t ht
  · exact .raised .unchanged _

theorem Answers.checked {overflow : Bool} {r : Reg} {v : Dword} : Answers i s (s.checked overflow r v) := by
  intro t ht
  obtain ⟨-, rfl⟩ | ⟨-, rfl⟩ := State.checked_next ht
  · exact .completed (.single (.gpr s r v))
  · exact .raised .unchanged _

theorem Answers.trapIf {c : Bool} : Answers i s (s.trapIf c) := by
  intro t ht
  obtain ⟨-, rfl⟩ | ⟨-, rfl⟩ := State.trapIf_next ht
  · exact .completed .refl
  · exact .raised .unchanged _

/-! ### Memory accesses -/

theorem Answers.translated {va : Dword} {kind : Access} {k : Word → Result} (h : ∀ pa, Answers i s (k pa)) :
    Answers i s (s.translated va kind k) := by
  intro t ht
  obtain ⟨pa, -, ht⟩ | ⟨f, -, rfl⟩ := State.translated_next ht
  · exact h pa t ht
  · exact .raised (.failingAddress va) _

theorem Answers.load {va : Dword} {n : Nat} {k : Word → Result} (h : ∀ pa, Answers i s (k pa)) :
    Answers i s (s.load va n k) := by
  intro t ht
  obtain ⟨pa, -, ht⟩ | ⟨e, rfl⟩ := State.load_next ht
  · exact h pa t ht
  · exact .raised (.failingAddress va) e

theorem Answers.store {va : Dword} {n : Nat} {k : Word → Result} (h : ∀ pa, Answers i s (k pa)) :
    Answers i s (s.store va n k) := by
  intro t ht
  obtain ⟨pa, -, ht⟩ | ⟨e, rfl⟩ := State.store_next ht
  · exact h pa t ht
  · exact .raised (.failingAddress va) e

theorem Answers.storeConditional {va : Dword} {n : Nat} {r : Reg} {written : Word → State}
    (h : ∀ pa, Update i s (written pa)) : Answers i s (s.storeConditional va n r written) := by
  intro t ht
  obtain ⟨-, pa, -, rfl⟩ | ⟨-, rfl⟩ | ⟨e, rfl⟩ := State.storeConditional_next ht
  · exact .completed (.tail (.single (h pa)) (.gpr _ r _))
  · exact .completed (.single (.gpr s r _))
  · exact .raised (.failingAddress va) e

theorem Update.busWrite8 (s : State) (pa : Word) (v : Byte) : Update i s (s.busWrite8 pa v) :=
  .busWrite s pa _ _ _ fun h => Memory.wf_write8 h pa v

theorem Update.busWrite16 (s : State) (pa : Word) (v : Half) : Update i s (s.busWrite16 pa v) :=
  .busWrite s pa _ _ _ fun h => Memory.wf_write16 h pa v

theorem Update.busWrite32 (s : State) (pa : Word) (v : Word) : Update i s (s.busWrite32 pa v) :=
  .busWrite s pa _ _ _ fun h => Memory.wf_write32 h pa v

theorem Update.busWrite64 (s : State) (pa : Word) (v : Dword) : Update i s (s.busWrite64 pa v) :=
  .busWrite s pa _ _ _ fun h => Memory.wf_write64 h pa v

/-! ### Floating point -/

theorem sameBesidesSignals_clearCause (f : Word) : sameBesidesSignals f (fcrClearCause f) := by
  rw [sameBesidesSignals, fcrClearCause, BitVec.and_assoc]
  rfl

theorem sameBesidesSignals.addCause {f g : Word} (h : sameBesidesSignals f g) (e : FpExc) :
    sameBesidesSignals f (fcrAddCause g e) := by
  have he : (e.setWidth 32 <<< 12) &&& ~~~0x0003F07C#32 = 0#32 := by revert e; decide
  rw [sameBesidesSignals, fcrAddCause, BitVec.and_or_distrib_right, he, BitVec.or_zero]
  exact h

theorem sameBesidesSignals.addFlags {f g : Word} (h : sameBesidesSignals f g) (e : FpExc) :
    sameBesidesSignals f (fcrAddFlags g e) := by
  have he : ((e.extractLsb' 0 5).setWidth 32 <<< 2) &&& ~~~0x0003F07C#32 = 0#32 := by revert e; decide
  rw [sameBesidesSignals, fcrAddFlags, BitVec.and_or_distrib_right, he, BitVec.or_zero]
  exact h

theorem Answers.fpSignal {e : FpExc} {k : State → Result}
    (h : ∀ f, sameBesidesSignals s.fcr31 f → Answers i s (k (s.setFcr31 f))) : Answers i s (s.fpSignal e k) := by
  intro t ht
  have hc := (sameBesidesSignals_clearCause s.fcr31).addCause e
  obtain ⟨-, -, ht⟩ | ⟨-, -, rfl⟩ | rfl := State.fpSignal_next ht
  · exact h _ (hc.addFlags e) t ht
  · exact .raised (.fpSignals _ hc) _
  · exact .raised .unchanged _

theorem Update.fgr32 (s : State) (f : FReg) (v : Word) : Update i s (s.setFgr32 f v) := .fpr s _ _

theorem Update.fgr64 (s : State) (f : FReg) (v : Dword) : Update i s (s.setFgr64 f v) := .fpr s _ _

theorem Update.fpWrite (s : State) (fmt : FpFmt) (f : FReg) (v : Dword) : Update i s (s.fpWrite fmt f v) := by
  cases fmt with
  | single => exact .fgr32 s f _
  | double => exact .fgr64 s f v

theorem Update.fxWrite (s : State) (fmt : FxFmt) (f : FReg) (v : Dword) : Update i s (s.fxWrite fmt f v) := by
  cases fmt with
  | word => exact .fgr32 s f _
  | long => exact .fgr64 s f v

theorem Answers.fpOp {fmt : FpFmt} {fd : FReg} {ans : FpAnswer} : Answers i s (s.fpOp fmt fd ans) :=
  .fpSignal fun f hf => .two (.fpSignals s f hf) (.fpWrite _ fmt fd _)

theorem Answers.fxOp {fmt : FxFmt} {fd : FReg} {ans : FpAnswer} : Answers i s (s.fxOp fmt fd ans) :=
  .fpSignal fun f hf => .two (.fpSignals s f hf) (.fxWrite _ fmt fd _)

theorem Answers.fpCompare {fmt : FpFmt} {cond : BitVec 4} {fs ft : FReg} (hi : i = .compareFmt fmt cond fs ft) :
    Answers i s (s.fpCompare fmt cond fs ft) :=
  .fpSignal fun f hf => .two (.fpSignals s f hf) (.fpCompare _ _ ⟨fmt, cond, fs, ft, hi⟩)

/-! ### Control registers and the TLB -/

theorem Answers.cfc1 {rt : Reg} {fs : FReg} : Answers i s (execCfc1 rt fs s) := by
  refine .checkCop1 ?_
  split
  · exact .one (.gpr s rt _)
  · split
    · exact .one (.gpr s rt _)
    · exact .refused _

theorem Answers.ctc1 {rt : Reg} {fs : FReg} : Answers (.ctc1 rt fs) s (execCtc1 rt fs s) := by
  refine .checkCop1 ?_
  split
  · next h =>
    have hi : ∃ r, Instr.ctc1 rt fs = .ctc1 r 31#5 := ⟨rt, by rw [h]⟩
    unfold State.writeFcr31
    split
    · exact .raise (.fpControl _ hi) _
    · exact .one (.fpControl s _ hi)
  · split
    · exact .next .refl
    · exact .refused _

theorem Answers.withTlbIndex {n : BitVec 6} {k : Fin 32 → Result} (h : ∀ j, Answers i s (k j)) :
    Answers i s (s.withTlbIndex n k) := by
  unfold State.withTlbIndex
  split
  · exact h _
  · exact .refused _

theorem Answers.tlbwr : Answers .tlbwr s (execTlbwr s) := by
  refine .checkCop0 ?_
  split
  · exact .refused _
  · exact .withTlbIndex fun j => .one (.tlbWrite s j (.inr rfl))

/-! ### Every instruction -/

/-- What every instruction can answer, by the shape of its meaning. -/
theorem exec_answers (i : Instr) (s : State) : Answers i s (exec i s) := by
  cases i with
  | nop | sync | cache => exact .next .refl
  | add | sub | addi => exact .checked
  | dadd | dsub | daddi => exact .check64 .checked
  | addu | subu | and | or | xor | nor | slt | sltu | addiu | slti | sltiu | andi | ori | xori | lui | sll | srl | sra
  | sllv | srlv | srav | mfhi | mflo => exact .one (.gpr ..)
  | daddu | dsubu | daddiu | dsll | dsrl | dsra | dsllv | dsrlv | dsrav | dsll32 | dsrl32 | dsra32 =>
    exact .check64 (.one (.gpr ..))
  | mult | multu | div | divu | mthi | mtlo => exact .one (.hiLo _ _ _ rfl)
  | dmult | dmultu | ddiv | ddivu => exact .check64 (.one (.hiLo _ _ _ rfl))
  | j | jr | beq | bne | blez | bgtz | bltz | bgez => exact .one (.branch ..)
  | jal | jalr | bltzal | bgezal => exact .two (.gpr ..) (.branch ..)
  | beql | bnel | blezl | bgtzl | bltzl | bgezl => exact .one (.branchLikely ..)
  | bltzall | bgezall => exact .two (.gpr ..) (.branchLikely ..)
  | bc1f | bc1t => exact .checkCop1 (.one (.branch ..))
  | bc1fl | bc1tl => exact .checkCop1 (.one (.branchLikely ..))
  | lb | lbu | lh | lhu | lw => exact .load fun _ => .two (.busRead ..) (.gpr ..)
  | ld | lwu => exact .check64 (.load fun _ => .two (.busRead ..) (.gpr ..))
  | lwl | lwr => exact .translated fun _ => .two (.busRead ..) (.gpr ..)
  | ldl | ldr => exact .check64 (.translated fun _ => .two (.busRead ..) (.gpr ..))
  | ll r b o =>
    exact .load fun _ => .next (.tail (.tail (.single (.busRead ..)) (.gpr ..)) (.reserve _ _ ⟨r, b, o, .inl rfl⟩))
  | lld r b o =>
    exact .check64 (.load fun _ =>
      .next (.tail (.tail (.single (.busRead ..)) (.gpr ..)) (.reserve _ _ ⟨r, b, o, .inr rfl⟩)))
  | lwc1 => exact .checkCop1 (.load fun _ => .two (.busRead ..) (.fgr32 ..))
  | ldc1 => exact .checkCop1 (.load fun _ => .two (.busRead ..) (.fgr64 ..))
  | sb => exact .store fun _ => .one (.busWrite8 ..)
  | sh => exact .store fun _ => .one (.busWrite16 ..)
  | sw => exact .store fun _ => .one (.busWrite32 ..)
  | sd => exact .check64 (.store fun _ => .one (.busWrite64 ..))
  | swc1 => exact .checkCop1 (.store fun _ => .one (.busWrite32 ..))
  | sdc1 => exact .checkCop1 (.store fun _ => .one (.busWrite64 ..))
  | swl | swr => exact .translated fun _ => .two (.busRead ..) (.busWrite32 ..)
  | sdl | sdr => exact .check64 (.translated fun _ => .two (.busRead ..) (.busWrite64 ..))
  | sc => exact .storeConditional fun _ => .busWrite32 ..
  | scd => exact .check64 (.storeConditional fun _ => .busWrite64 ..)
  | syscall | break_ => exact .raise .unchanged _
  | tge | tgeu | tlt | tltu | teq | tne | tgei | tgeiu | tlti | tltiu | teqi | tnei => exact .trapIf
  | cop2 => exact .checkCop2 (.refused _)
  | mfc0 => exact .checkCop0 (.one (.gpr ..))
  | dmfc0 => exact .checkCop0 (.check64 (.one (.gpr ..)))
  | mtc0 r => exact .checkCop0 (.one (.cp0Write _ _ _ ⟨r, .inl rfl⟩))
  | dmtc0 r => exact .checkCop0 (.check64 (.one (.cp0Write _ _ _ ⟨r, .inr rfl⟩)))
  | tlbr => exact .checkCop0 (.withTlbIndex fun _ => .one (.tlbRead _ _ rfl))
  | tlbwi => exact .checkCop0 (.withTlbIndex fun _ => .one (.tlbWrite _ _ (.inl rfl)))
  | tlbwr => exact .tlbwr
  | tlbp => exact .checkCop0 (.one (.tlbProbe _ rfl))
  | eret => exact .checkCop0 (.one (.eret _ rfl))
  | mfc1 => exact .checkCop1 (.one (.gpr ..))
  | dmfc1 => exact .checkCop1 (.check64 (.one (.gpr ..)))
  | mtc1 => exact .checkCop1 (.one (.fgr32 ..))
  | dmtc1 => exact .checkCop1 (.check64 (.one (.fgr64 ..)))
  | cfc1 => exact .cfc1
  | ctc1 => exact .ctc1
  | movS | movD => exact .checkCop1 (.one (.fpWrite ..))
  | addS | addD | subS | subD | mulS | mulD | divS | divD | sqrtS | sqrtD | absS | absD | negS | negD | cvtSD | cvtSW
  | cvtSL | cvtDS | cvtDW | cvtDL => exact .fpOp
  | roundLS | roundLD | truncLS | truncLD | ceilLS | ceilLD | floorLS | floorLD | roundWS | roundWD | truncWS | truncWD
  | ceilWS | ceilWD | floorWS | floorWD | cvtWS | cvtWD | cvtLS | cvtLD => exact .fxOp
  | cFS | cFD | cUnS | cUnD | cEqS | cEqD | cUeqS | cUeqD | cOltS | cOltD | cUltS | cUltD | cOleS | cOleD | cUleS | cUleD
  | cSfS | cSfD | cNgleS | cNgleD | cSeqS | cSeqD | cNglS | cNglD | cLtS | cLtD | cNgeS | cNgeD | cLeS | cLeD | cNgtS
  | cNgtD => exact .fpCompare rfl

/-- What an instruction answers. -/
theorem exec_answer (h : exec i s = .next t) : Answer i s t := exec_answers i s t h

end Sys2Proof.Machine
end

section
/-!
Proofs/Legal: the invariant of 10_state (obligation O10). Each layout of coprocessor 0 is a mask its register fits;
each update of Proofs/Updates, each entry of an exception and each of the lines 1 to 4 of the step keeps them.
-/

namespace Sys2Proof.Machine

/-! ### Bits within a mask -/

/-- Every bit of `x` that is set is one of the mask `m`. -/
def FitsMask {w : Nat} (m x : BitVec w) : Prop := x &&& ~~~m = 0#w

section
variable {w n : Nat} {m k x y : BitVec w}

theorem FitsMask.mono (h : FitsMask k x) (hk : k &&& ~~~m = 0#w) : FitsMask m x := by
  unfold FitsMask at *
  ext b hb
  have hx := congrArg (·.getLsbD b) h
  have hm := congrArg (·.getLsbD b) hk
  simp only [BitVec.getLsbD_and, BitVec.getLsbD_not, hb, BitVec.getLsbD_zero] at hx hm
  simp only [← BitVec.getLsbD_eq_getElem, BitVec.getLsbD_and, BitVec.getLsbD_not, hb, BitVec.getLsbD_zero]
  revert hx hm
  cases x.getLsbD b <;> cases m.getLsbD b <;> simp

theorem FitsMask.and_left (h : FitsMask m x) (y : BitVec w) : FitsMask m (x &&& y) := by
  rw [FitsMask, BitVec.and_comm x, BitVec.and_assoc, h, BitVec.and_zero]

/-- A value under a mask fits every larger mask. -/
theorem FitsMask.and_right (x : BitVec w) (h : y &&& ~~~m = 0#w) : FitsMask m (x &&& y) := by
  rw [FitsMask, BitVec.and_assoc, h, BitVec.and_zero]

theorem FitsMask.or (hx : FitsMask m x) (hy : FitsMask m y) : FitsMask m (x ||| y) := by
  rw [FitsMask, BitVec.and_or_distrib_right, hx, hy, BitVec.or_zero]

/-- A field of `n` bits placed from bit `j` on. -/
theorem FitsMask.field (f : BitVec n) (j : Nat) (h : ((BitVec.allOnes n).setWidth w <<< j) &&& ~~~m = 0#w) :
    FitsMask m (f.setWidth w <<< j) := by
  refine FitsMask.mono ?_ h
  unfold FitsMask
  ext b hb
  by_cases hj : b < j <;> simp [hj]
  intro hf
  exact BitVec.lt_of_getLsbD hf

theorem FitsMask.field_zero (f : BitVec n) (h : (BitVec.allOnes n).setWidth w &&& ~~~m = 0#w) :
    FitsMask m (f.setWidth w) := by
  simpa using FitsMask.field f 0 (m := m) (by simpa using h)

end

/-! ### The layouts of coprocessor 0 -/

/-- `Cp0.legal` and `Cp0.randomInRange`, register by register. -/
structure Cp0.Legal (c : Cp0) : Prop where
  index : FitsMask 0x8000003F#32 c.index
  entryLo0 : FitsMask 0x3FFFFFFF#64 c.entryLo0
  entryLo1 : FitsMask 0x3FFFFFFF#64 c.entryLo1
  context : FitsMask (~~~0xF#64) c.context
  pageMask : FitsMask 0x01FFE000#32 c.pageMask
  wired : FitsMask 0x0000003F#32 c.wired
  entryHi : FitsMask 0xC00000FFFFFFE0FF#64 c.entryHi
  status : FitsMask 0xFF57FFFF#32 c.status
  cause : FitsMask 0xB000FF7C#32 c.cause
  prid : c.prid = 0x00000B22#32
  configFixed : c.config &&& ~~~0x0F00800F#32 = 0x7006E460#32 &&& ~~~0x0F00800F#32
  configBE : c.config &&& 0x00008000#32 = 0x00008000#32
  watchLo : FitsMask (~~~0x4#32) c.watchLo
  watchHi : FitsMask 0xF#32 c.watchHi
  xContext : FitsMask (~~~0xF#64) c.xContext
  parityError : FitsMask 0xFF#32 c.parityError
  cacheError : c.cacheError = 0#32
  tagLo : FitsMask 0x0FFFFFC0#32 c.tagLo
  tagHi : c.tagHi = 0#32
  random : c.wired.extractLsb' 0 6 ≤ 31#6 → c.wired.extractLsb' 0 6 ≤ c.random ∧ c.random ≤ 31#6

theorem Cp0.randomInRange_iff (c : Cp0) : c.randomInRange = true ↔
    (c.wired.extractLsb' 0 6 ≤ 31#6 → c.wired.extractLsb' 0 6 ≤ c.random ∧ c.random ≤ 31#6) := by
  simp only [Cp0.randomInRange, Bool.or_eq_true, Bool.and_eq_true, decide_eq_true_eq, ← BitVec.not_le]
  exact (imp_iff_not_or ..).symm

theorem Cp0.legal_iff (c : Cp0) : (c.legal && c.randomInRange) = true ↔ c.Legal := by
  rw [Bool.and_eq_true, c.randomInRange_iff]
  simp only [Cp0.legal, Bool.and_eq_true, beq_iff_eq, and_assoc]
  constructor
  · rintro ⟨h0, h2, h3, h4, h5, h6, h10, h12, h13, h15, hf, hb, h18, h19, h20, h26, h27, h28, h29, hr⟩
    exact ⟨h0, h2, h3, h4, h5, h6, h10, h12, h13, h15, hf, hb, h18, h19, h20, h26, h27, h28, h29, hr⟩
  · rintro ⟨h0, h2, h3, h4, h5, h6, h10, h12, h13, h15, hf, hb, h18, h19, h20, h26, h27, h28, h29, hr⟩
    exact ⟨h0, h2, h3, h4, h5, h6, h10, h12, h13, h15, hf, hb, h18, h19, h20, h26, h27, h28, h29, hr⟩

/-! ### Coprocessor 0 under the operations -/

/-- The write masks of 45_cp0 R375 are within the layouts. -/
theorem Cp0.Legal.write {c : Cp0} (h : c.Legal) (n : BitVec 5) (v : Dword) : (c.write n v).Legal := by
  unfold Cp0.write
  split
  · exact { h with index := .and_right _ rfl }
  · exact { h with entryLo0 := .and_right _ rfl }
  · exact { h with entryLo1 := .and_right _ rfl }
  · exact { h with context := .or (.and_right _ rfl) (.and_right _ rfl) }
  · exact { h with pageMask := .and_right _ rfl }
  · exact { h with wired := .and_right _ rfl, random := fun hw => ⟨hw, BitVec.le_refl _⟩ }
  · exact { h with }
  · exact { h with entryHi := .and_right _ rfl }
  · exact { h with cause := h.cause.and_left _ }
  · exact { h with status := .and_right _ rfl }
  · exact { h with cause := .or (h.cause.and_left _) (.and_right _ rfl) }
  · exact { h with }
  · refine { h with configFixed := ?_, configBE := ?_ }
    · have hv := FitsMask.and_right (m := 0x0F00800F#32) (y := Config.configMask) (lo32 v) rfl
      rw [BitVec.and_or_distrib_right, hv, BitVec.zero_or]
      rfl
    · rw [BitVec.and_or_distrib_right, BitVec.and_assoc]
      ext b hb
      simp [Config.configFixed, Config.configMask]
  · exact { h with }
  · exact { h with watchLo := .and_right _ rfl }
  · exact { h with watchHi := .and_right _ rfl }
  · exact { h with xContext := .or (.and_right _ rfl) (.and_right _ rfl) }
  · exact { h with parityError := .and_right _ rfl }
  · exact { h with tagLo := .and_right _ rfl }
  · exact { h with }
  · exact h

theorem TlbPage.entryLo_fitsMask (p : TlbPage) (global : Bool) : FitsMask 0x3FFFFFFF#64 (p.entryLo global) :=
  .or (.or (.or (.or (.field p.pfn 6 rfl) (.field p.c 3 rfl)) (.field (BitVec.ofBool p.d) 2 rfl))
    (.field (BitVec.ofBool p.v) 1 rfl)) (.field_zero (BitVec.ofBool global) rfl)

theorem Cp0.Legal.readTlbEntry {c : Cp0} (h : c.Legal) (e : TlbEntry) : (c.readTlbEntry e).Legal :=
  { h with
    pageMask := .field e.mask 13 rfl
    entryHi := .or (.or (.field e.r 62 rfl) (.field e.vpn2 13 rfl)) (.field_zero e.asid rfl)
    entryLo0 := e.lo0.entryLo_fitsMask e.global
    entryLo1 := e.lo1.entryLo_fitsMask e.global }

theorem tlbProbe_fitsMask (tlb : Vector TlbEntry 32) (entryHi : Dword) :
    FitsMask 0x8000003F#32 (tlbProbe tlb entryHi) := by
  unfold tlbProbe
  split
  · next i hi =>
    obtain ⟨hlt, -⟩ := List.findIdx?_eq_some_iff_getElem.1 hi
    have hall : ∀ j : Fin 32, BitVec.ofNat 32 j &&& ~~~0x8000003F#32 = 0#32 := by decide
    exact hall ⟨i, by simpa using hlt⟩
  · rfl

theorem Cp0.Legal.recordFaultAddress {s : State} (h : s.cp0.Legal) (va : Dword) :
    (s.recordFaultAddress va).cp0.Legal :=
  { h with
    context := .or (h.context.and_left _) (.field (va.extractLsb' 13 19) 4 rfl)
    xContext := .or (.or (h.xContext.and_left _) (.field (va.extractLsb' 13 27) 4 rfl))
      (.field (va.extractLsb' 62 2) 31 rfl)
    entryHi := .or (.or (h.entryHi.and_left _) (.field (va.extractLsb' 13 27) 13 rfl))
      (.field (va.extractLsb' 62 2) 62 rfl) }

theorem State.causeAfter_fitsMask {s : State} (h : FitsMask 0xB000FF7C#32 s.cp0.cause) (e : Exc) :
    FitsMask 0xB000FF7C#32 (s.causeAfter e) := by
  have hbd : FitsMask 0xB000FF7C#32 (if s.inDelaySlot then s.cp0.cause ||| 0x80000000#32
      else if s.exl then s.cp0.cause else s.cp0.cause &&& ~~~0x80000000#32) := by
    split
    · exact h.or rfl
    · split
      · exact h
      · exact h.and_left _
  have hcode := (hbd.and_left (~~~0x0000007C#32)).or (.field e.code 2 rfl)
  unfold State.causeAfter
  cases e.ce with
  | none => exact hcode
  | some n => exact (hcode.and_left _).or (.field n 28 rfl)

theorem Cp0.Legal.takeException {s : State} (h : s.cp0.Legal) (e : Exc) : (s.takeException e).cp0.Legal :=
  { h with
    cause := State.causeAfter_fitsMask h.cause e
    status := h.status.or rfl }

theorem Cp0.Legal.returnFromException {s : State} (h : s.cp0.Legal) : s.returnFromException.cp0.Legal := by
  refine { h with status := ?_ }
  change FitsMask _ (if s.erl then _ else _)
  split
  · exact h.status.and_left _
  · exact h.status.and_left _

theorem Cp0.Legal.advanceTimer {s : State} (h : s.cp0.Legal) : s.advanceTimer.cp0.Legal := by
  refine { h with cause := ?_ }
  change FitsMask _ (if s.timerMatches then _ else _)
  split
  · exact h.cause.or rfl
  · exact h.cause

theorem Cp0.Legal.sampleInputs {s : State} (h : s.cp0.Legal) : s.sampleInputs.cp0.Legal :=
  { h with cause := .or (h.cause.and_left _) (.field s.sampledLines 10 rfl) }

/-! ### Random (10_state R34) -/

theorem State.nextRandom_of_decrement {s : State} (hw : s.wiredField ≤ 31#6) (hp : s.randomPolicy = .decrement) :
    s.nextRandom = if s.cp0.random = s.wiredField then 31#6 else s.cp0.random - 1#6 := by
  change (if 31#6 < s.wiredField then _ else _) = _
  rw [if_neg (BitVec.not_lt.2 hw), hp]
  rfl

theorem State.nextRandom_of_arbitrary {s : State} (hw : s.wiredField ≤ 31#6) (hp : s.randomPolicy = .arbitrary) :
    s.wiredField ≤ s.nextRandom ∧ s.nextRandom ≤ 31#6 := by
  have hn : s.nextRandom = s.wiredField + Config.freeRandom s.freeIx % (32#6 - s.wiredField) := by
    change (if 31#6 < s.wiredField then _ else _) = _
    rw [if_neg (BitVec.not_lt.2 hw), hp]
    rfl
  have hr : Config.freeRandom s.freeIx % (32#6 - s.wiredField) < 32#6 - s.wiredField :=
    BitVec.umod_lt _ (by bv_omega)
  rw [hn]
  generalize Config.freeRandom s.freeIx % (32#6 - s.wiredField) = r at hr
  constructor <;> bv_omega

theorem State.nextRandom_inRange {s : State} (hw : s.wiredField ≤ 31#6)
    (h : s.wiredField ≤ s.cp0.random ∧ s.cp0.random ≤ 31#6) : s.wiredField ≤ s.nextRandom ∧ s.nextRandom ≤ 31#6 := by
  obtain ⟨hlow, hhigh⟩ := h
  cases hp : s.randomPolicy with
  | arbitrary => exact State.nextRandom_of_arbitrary hw hp
  | decrement =>
    rw [State.nextRandom_of_decrement hw hp]
    split
    · exact ⟨hw, BitVec.le_refl _⟩
    · next hne => constructor <;> bv_omega

theorem Cp0.Legal.updateRandom {s : State} (h : s.cp0.Legal) : s.updateRandom.cp0.Legal :=
  { h with random := fun hw => State.nextRandom_inRange (s := s) hw (h.random hw) }

/-! ### The invariant -/

/-- What TLBWI and TLBWR write has the form of 10_state R55. -/
theorem Cp0.tlbEntry_legal (c : Cp0) : c.tlbEntry.legal = true := by
  rw [TlbEntry.legal, beq_iff_eq]
  change (c.entryHi.extractLsb' 13 27 &&& ~~~(c.tlbEntry.mask.setWidth 27)) &&& c.tlbEntry.mask.setWidth 27 = 0#27
  rw [BitVec.and_assoc, BitVec.and_comm (~~~_), BitVec.and_not_self]
  exact BitVec.and_zero

/-- `State.legal`, part by part. -/
structure State.Legal (s : State) : Prop where
  cp0 : s.cp0.Legal
  tlb : ∀ j (hj : j < 32), (s.tlb[j]).legal = true
  mem : s.mem.wf = true
  fcr0 : s.fcr0 = 0x00000A00#32
  fcr31 : FitsMask 0x0183FFFF#32 s.fcr31

theorem State.legal_iff (s : State) : s.legal = true ↔ s.Legal := by
  have hsplit : s.legal = true ↔ (s.cp0.legal && s.cp0.randomInRange) = true ∧ s.tlb.all TlbEntry.legal = true
      ∧ s.mem.wf = true ∧ s.fcr0 = 0x00000A00#32 ∧ FitsMask 0x0183FFFF#32 s.fcr31 := by
    simp only [State.legal, FitsMask, Bool.and_eq_true, beq_iff_eq, and_assoc]
  rw [hsplit, Cp0.legal_iff, Vector.all_eq_true]
  exact ⟨fun ⟨hc, ht, hm, h0, h31⟩ => ⟨hc, ht, hm, h0, h31⟩, fun ⟨hc, ht, hm, h0, h31⟩ => ⟨hc, ht, hm, h0, h31⟩⟩

variable {i : Instr} {s t : State}

/-- The invariant reads five parts of the state. -/
theorem State.Legal.of_eq (h : s.Legal) (hc : t.cp0 = s.cp0) (ht : t.tlb = s.tlb) (hm : t.mem = s.mem)
    (h0 : t.fcr0 = s.fcr0) (h31 : t.fcr31 = s.fcr31) : t.Legal :=
  ⟨hc ▸ h.cp0, ht ▸ h.tlb, hm ▸ h.mem, h0 ▸ h.fcr0, h31 ▸ h.fcr31⟩

theorem State.Legal.setCp0 (h : s.Legal) {c : Cp0} (hc : c.Legal) : (s.setCp0 c).Legal := { h with cp0 := hc }

theorem State.Legal.setFcr31 (h : s.Legal) {f : Word} (hf : FitsMask 0x0183FFFF#32 f) : (s.setFcr31 f).Legal :=
  { h with fcr31 := hf }

theorem State.Legal.afterRead (h : s.Legal) (pa : Word) (n : Nat) : (s.afterRead pa n).Legal :=
  h.of_eq (s.afterRead_cp0 ..) (s.afterRead_tlb ..) (s.afterRead_mem ..) (s.afterRead_fcr0 ..) (s.afterRead_fcr31 ..)

theorem State.Legal.recordFaultAddress (h : s.Legal) (va : Dword) : (s.recordFaultAddress va).Legal :=
  { h with cp0 := h.cp0.recordFaultAddress va }

theorem State.Legal.takeException (h : s.Legal) (e : Exc) : (s.takeException e).Legal :=
  { h with cp0 := h.cp0.takeException e }

theorem State.Legal.setTlb (h : s.Legal) (k : Fin 32) {e : TlbEntry} (he : e.legal = true) : (s.setTlb k e).Legal := by
  refine { h with tlb := fun j hj => ?_ }
  rw [State.setTlb_tlb, Vector.getElem_set]
  split
  · exact he
  · exact h.tlb j hj

/-- The signals of 47_fpu_arith R432 write bits that FCR31 has. -/
theorem sameBesidesSignals.fitsMask {f g : Word} (h : sameBesidesSignals f g) (hf : FitsMask 0x0183FFFF#32 f) :
    FitsMask 0x0183FFFF#32 g := by
  have split_mask : ∀ x : Word, x &&& ~~~0x0183FFFF#32 = (x &&& ~~~0x0003F07C#32) &&& ~~~0x0183FFFF#32 := by
    intro x
    rw [BitVec.and_assoc]
    rfl
  rw [FitsMask, split_mask, h, ← split_mask]
  exact hf

theorem fcrSetC_fitsMask {f : Word} (hf : FitsMask 0x0183FFFF#32 f) (c : Bool) :
    FitsMask 0x0183FFFF#32 (fcrSetC f c) := by
  unfold fcrSetC
  split
  · exact hf.or rfl
  · exact hf.and_left _

/-! ### Every step keeps it -/

theorem Update.keeps_legal (h : Update i s t) (hs : s.Legal) : t.Legal := by
  cases h with
  | gpr r v => exact hs.of_eq (s.setX_cp0 r v) (s.setX_tlb r v) (s.setX_mem r v) (s.setX_fcr0 r v) (s.setX_fcr31 r v)
  | hiLo => exact hs.of_eq rfl rfl rfl rfl rfl
  | branch => exact hs.of_eq rfl rfl rfl rfl rfl
  | branchLikely c a =>
    exact hs.of_eq (s.branchLikely_cp0 c a) (s.branchLikely_tlb c a) (s.branchLikely_mem c a) (s.branchLikely_fcr0 c a)
      (s.branchLikely_fcr31 c a)
  | busRead pa n => exact hs.afterRead pa n
  | busWrite pa n v m hm =>
    exact {
      cp0 := by simpa using hs.cp0
      tlb := by simpa using hs.tlb
      mem := State.busWrite_wf hs.mem (hm hs.mem)
      fcr0 := by simpa using hs.fcr0
      fcr31 := by simpa using hs.fcr31 }
  | reserve pa => exact { hs with cp0 := { hs.cp0 with } }
  | fpr => exact hs.of_eq rfl rfl rfl rfl rfl
  | fpSignals f hf => exact hs.setFcr31 (hf.fitsMask hs.fcr31)
  | fpCompare c => exact hs.setFcr31 (fcrSetC_fitsMask hs.fcr31 c)
  | fpControl v => exact hs.setFcr31 (.and_right v rfl)
  | cp0Write n v => exact hs.setCp0 (hs.cp0.write n v)
  | tlbRead e => exact hs.setCp0 (hs.cp0.readTlbEntry e)
  | tlbWrite k => exact hs.setTlb k s.cp0.tlbEntry_legal
  | tlbProbe => exact hs.setCp0 { hs.cp0 with index := tlbProbe_fitsMask .. }
  | eret => exact { hs with cp0 := hs.cp0.returnFromException }

theorem RaisesIn.keeps_legal (h : RaisesIn i s t) (hs : s.Legal) : t.Legal := by
  cases h with
  | unchanged => exact hs
  | failingAddress va => exact hs.recordFaultAddress va
  | fpSignals f hf => exact hs.setFcr31 (hf.fitsMask hs.fcr31)
  | fpControl v => exact hs.setFcr31 (.and_right v rfl)

theorem Answer.keeps_legal (h : Answer i s t) (hs : s.Legal) : t.Legal := by
  cases h with
  | raised h e => exact (h.keeps_legal hs).takeException e
  | completed h =>
    induction h with
    | refl => exact hs
    | tail _ h ih => exact h.keeps_legal ih

theorem State.Legal.advanceTimer (h : s.Legal) : s.advanceTimer.Legal := { h with cp0 := h.cp0.advanceTimer }

theorem State.Legal.sampleInputs (h : s.Legal) : s.sampleInputs.Legal := { h with cp0 := h.cp0.sampleInputs }

theorem State.Legal.updateRandom (h : s.Legal) : s.updateRandom.Legal := { h with cp0 := h.cp0.updateRandom }

theorem State.Legal.advancePc (h : s.Legal) : s.advancePc.Legal := { h with }

/-- Lines 1 to 4 of the step (R24). -/
theorem State.Legal.beginStep (h : s.Legal) : s.beginStep.Legal := h.advanceTimer.sampleInputs.updateRandom.advancePc

theorem step_keeps_legal (h : step s = .next t) (hs : s.Legal) : t.Legal := by
  obtain ⟨-, rfl⟩ | ⟨e, rfl⟩ | ⟨pa, -, ⟨-, rfl⟩ | ⟨i, -, hi⟩⟩ := step_next h
  · exact hs.beginStep.takeException _
  · exact (hs.beginStep.recordFaultAddress _).takeException e
  · exact (hs.beginStep.afterRead pa 4).takeException _
  · exact (exec_answer hi).keeps_legal (hs.beginStep.afterRead pa 4)

/-- Settles O10: the invariant is kept by lines 1 to 4, by every update an instruction makes and by every entry of an
exception. -/
theorem stepKeepsLegal : Obligations.StepKeepsLegal := by
  intro s t hs h
  rw [State.legal_iff] at hs ⊢
  exact step_keeps_legal h hs

end Sys2Proof.Machine
end

section
/-!
Proofs/WrittenOnlyBy: which instructions write `hi` and `lo`, the reservation, the compare bit, the TLB and ErrorEPC,
and that the read-only registers and the platform's map stay (obligation O20).
-/

namespace Sys2Proof.Machine

/-! ### Writes of CP0 registers (45_cp0 R375) -/

@[simp] theorem Cp0.write_prid (c : Cp0) (n : BitVec 5) (v : Dword) : (c.write n v).prid = c.prid := by
  unfold Cp0.write; split <;> rfl

@[simp] theorem Cp0.write_cacheError (c : Cp0) (n : BitVec 5) (v : Dword) :
    (c.write n v).cacheError = c.cacheError := by
  unfold Cp0.write; split <;> rfl

@[simp] theorem Cp0.write_tagHi (c : Cp0) (n : BitVec 5) (v : Dword) : (c.write n v).tagHi = c.tagHi := by
  unfold Cp0.write; split <;> rfl

theorem Cp0.write_errorEpc_of_ne {n : BitVec 5} (hn : n ≠ 30#5) (c : Cp0) (v : Dword) :
    (c.write n v).errorEpc = c.errorEpc := by
  unfold Cp0.write
  split <;> simp at hn ⊢

/-! ### The compare bit (10_state R57) -/

theorem sameBesidesSignals.compareBit {f g : Word} (h : sameBesidesSignals f g) : g.getLsbD 23 = f.getLsbD 23 := by
  simpa using congrArg (·.getLsbD 23) h

/-! ### The parts of the state that few instructions write -/

/-- What the instruction `i` leaves of the parts of the state that few instructions write. -/
structure LeavesOthers (i : Instr) (s t : State) : Prop where
  hiLo : ¬ writesHiLo i = true → t.hi = s.hi ∧ t.lo = s.lo
  llbit : t.llbit = s.llbit ∨ (t.llbit = true ∧ ∃ r b o, i = .ll r b o ∨ i = .lld r b o)
    ∨ (t.llbit = false ∧ i = .eret)
  compareBit : ¬ ((∃ f c a b, i = .compareFmt f c a b) ∨ ∃ r, i = .ctc1 r 31#5) →
    t.fcr31.getLsbD 23 = s.fcr31.getLsbD 23
  tlb : ¬ (i = .tlbwi ∨ i = .tlbwr) → t.tlb = s.tlb
  errorEpc : (¬ ∃ r, i = .mtc0 r 30#5 ∨ i = .dmtc0 r 30#5) → t.cp0.errorEpc = s.cp0.errorEpc
  prid : t.cp0.prid = s.cp0.prid
  cacheError : t.cp0.cacheError = s.cp0.cacheError
  tagHi : t.cp0.tagHi = s.cp0.tagHi
  fcr0 : t.fcr0 = s.fcr0
  busMap : t.busMap = s.busMap

variable {i : Instr} {s t u : State}

theorem LeavesOthers.refl (i : Instr) (s : State) : LeavesOthers i s s := by
  constructor <;> simp

theorem LeavesOthers.trans (h : LeavesOthers i s t) (k : LeavesOthers i t u) : LeavesOthers i s u where
  hiLo hn := ⟨(k.hiLo hn).1.trans (h.hiLo hn).1, (k.hiLo hn).2.trans (h.hiLo hn).2⟩
  llbit := by
    obtain hk | hk := k.llbit
    · rw [hk]
      exact h.llbit
    · exact .inr hk
  compareBit hn := (k.compareBit hn).trans (h.compareBit hn)
  tlb hn := (k.tlb hn).trans (h.tlb hn)
  errorEpc hn := (k.errorEpc hn).trans (h.errorEpc hn)
  prid := k.prid.trans h.prid
  cacheError := k.cacheError.trans h.cacheError
  tagHi := k.tagHi.trans h.tagHi
  fcr0 := k.fcr0.trans h.fcr0
  busMap := k.busMap.trans h.busMap

theorem LeavesOthers.setFcr31 {f : Word} (hf : f.getLsbD 23 = s.fcr31.getLsbD 23) : LeavesOthers i s (s.setFcr31 f) :=
  { LeavesOthers.refl i s with compareBit := fun _ => hf }

theorem LeavesOthers.takeException (s : State) (e : Exc) : LeavesOthers i s (s.takeException e) := by
  constructor <;> simp

theorem LeavesOthers.recordFaultAddress (s : State) (va : Dword) : LeavesOthers i s (s.recordFaultAddress va) := by
  constructor <;> simp

theorem Update.leavesOthers (h : Update i s t) : LeavesOthers i s t := by
  cases h with
  | gpr | branch | branchLikely | busRead | busWrite | fpr => constructor <;> simp
  | hiLo _ _ hi => constructor <;> simp [hi]
  | reserve pa hi => constructor <;> simp [hi]
  | fpSignals f hf => exact .setFcr31 hf.compareBit
  | fpCompare c hi => exact { LeavesOthers.refl i s with compareBit := fun hn => absurd (.inl hi) hn }
  | fpControl v hi => exact { LeavesOthers.refl i s with compareBit := fun hn => absurd (.inr hi) hn }
  | cp0Write n v hi =>
    have he : (¬ ∃ r, i = .mtc0 r 30#5 ∨ i = .dmtc0 r 30#5) → (s.cp0.write n v).errorEpc = s.cp0.errorEpc :=
      fun hn => Cp0.write_errorEpc_of_ne (fun e => hn (e ▸ hi)) s.cp0 v
    exact { LeavesOthers.refl i s with
      errorEpc := he
      prid := s.cp0.write_prid n v
      cacheError := s.cp0.write_cacheError n v
      tagHi := s.cp0.write_tagHi n v }
  | tlbRead | tlbProbe => exact { LeavesOthers.refl i s with }
  | tlbWrite k hi => exact { LeavesOthers.refl i s with tlb := fun hn => absurd hi hn }
  | eret hi => exact { LeavesOthers.refl i s with llbit := .inr (.inr ⟨rfl, hi⟩) }

theorem RaisesIn.leavesOthers (h : RaisesIn i s t) : LeavesOthers i s t := by
  cases h with
  | unchanged => exact .refl i s
  | failingAddress va => exact .recordFaultAddress s va
  | fpSignals f hf => exact .setFcr31 hf.compareBit
  | fpControl v hi => exact { LeavesOthers.refl i s with compareBit := fun hn => absurd (.inr hi) hn }

theorem Answer.leavesOthers (h : Answer i s t) : LeavesOthers i s t := by
  cases h with
  | raised h e => exact h.leavesOthers.trans (.takeException _ e)
  | completed h =>
    induction h with
    | refl => exact .refl i s
    | tail _ h ih => exact ih.trans h.leavesOthers

/-- The ten instructions of `writesHiLo`, as O20 names them. -/
theorem not_writesHiLo (h : ∀ a b, i ≠ .mult a b ∧ i ≠ .multu a b ∧ i ≠ .div a b ∧ i ≠ .divu a b ∧ i ≠ .dmult a b
    ∧ i ≠ .dmultu a b ∧ i ≠ .ddiv a b ∧ i ≠ .ddivu a b ∧ i ≠ .mthi a ∧ i ≠ .mtlo a) : ¬ writesHiLo i = true := by
  intro hw
  unfold writesHiLo at hw
  split at hw <;> simp_all

/-- Settles O20: no update of an instruction, and no entry of an exception, writes a part that is not the
instruction's own. -/
theorem writtenOnlyBy : Obligations.WrittenOnlyBy := by
  intro i s t h
  have k := (exec_answer h).leavesOthers
  exact ⟨fun hn => k.hiLo (not_writesHiLo hn), k.llbit, or_iff_not_imp_right.2 k.compareBit,
    or_iff_not_imp_right.2 k.tlb, or_iff_not_imp_right.2 k.errorEpc, k.prid, k.cacheError, k.tagHi, k.fcr0, k.busMap⟩

end Sys2Proof.Machine
end

section
/-!
Proofs/StepLines: lines 1 to 4 of the step, its fetch, the modes and the state after reset (10_state R24, R54, R59;
obligations O5, O6, O8, O12).
-/

namespace Sys2Proof.Machine

variable {s : State} {pa : Word}

/-! ### Lines 1 to 4 of the step (10_state R24) -/

theorem State.sampledLines_eq (s : State) : s.sampledLines = s.extIntNext.headD s.extInt := by
  unfold State.sampledLines
  cases s.extIntNext <;> rfl

/-- Cause after lines 1 to 4: the timer may set IP[7], the lines replace IP[6:2]. -/
theorem State.beginStep_cause (s : State) : s.beginStep.cp0.cause =
    (s.advanceTimer.cp0.cause &&& ~~~0x00007C00#32) ||| (s.sampledLines.setWidth 32 <<< 10) := rfl

theorem inputMask_getLsbD (k : Nat) : (0x00007C00#32).getLsbD k = (decide (10 ≤ k) && decide (k < 15)) := by
  rw [show 0x00007C00#32 = (BitVec.allOnes 5).setWidth 32 <<< 10 from rfl]
  simp only [BitVec.getLsbD_shiftLeft, BitVec.getLsbD_setWidth, BitVec.getLsbD_allOnes]
  grind

theorem State.beginStep_cause_line {k : Nat} (hk : k < 5) :
    s.beginStep.cp0.cause.getLsbD (10 + k) = s.sampledLines.getLsbD k := by
  have hmask : (~~~0x00007C00#32).getLsbD (10 + k) = false := by
    rw [BitVec.getLsbD_not, inputMask_getLsbD]
    simp
    omega
  rw [State.beginStep_cause, BitVec.getLsbD_or, BitVec.getLsbD_and, hmask, Bool.and_false, Bool.false_or,
    BitVec.getLsbD_shiftLeft, BitVec.getLsbD_setWidth, Nat.add_sub_cancel_left]
  simp [show 10 + k < 32 by omega, show k < 32 by omega]

theorem State.advanceTimer_cause_of_ne {k : Nat} (hk : k ≠ 15) :
    s.advanceTimer.cp0.cause.getLsbD k = s.cp0.cause.getLsbD k := by
  change (if s.timerMatches then s.cp0.cause ||| BitVec.twoPow 32 15 else s.cp0.cause).getLsbD k = _
  split
  · simp [Ne.symm hk]
  · rfl

theorem State.beginStep_cause_other {k : Nat} (hk : k < 10 ∨ 15 < k) :
    s.beginStep.cp0.cause.getLsbD k = s.cp0.cause.getLsbD k := by
  have hline : (s.sampledLines.setWidth 32 <<< 10).getLsbD k = false := by
    rw [BitVec.getLsbD_shiftLeft, BitVec.getLsbD_setWidth]
    rcases hk with hk | hk
    · simp [hk]
    · rw [BitVec.getLsbD_of_ge s.sampledLines _ (by omega), Bool.and_false, Bool.and_false]
  rw [State.beginStep_cause, BitVec.getLsbD_or, hline, Bool.or_false, BitVec.getLsbD_and, BitVec.getLsbD_not,
    inputMask_getLsbD, State.advanceTimer_cause_of_ne (by omega)]
  by_cases h32 : k < 32
  · simp [h32]
    omega
  · simp [BitVec.getLsbD_of_ge s.cp0.cause k (by omega)]

theorem State.changesOnly_advanceTimer (s : State) :
    s.changesOnly s.advanceTimer fun p => p = .cp0 .count ∨ p = .cp0 .cause := by
  intro p hp
  cases p with
  | cp0 r =>
    cases r with
    | count | cause => simp at hp
    | _ => rfl
  | _ => rfl

theorem State.changesOnly_sampleInputs (s : State) :
    s.changesOnly s.sampleInputs fun p => p = .cp0 .cause ∨ p = .extInt ∨ p = .extIntNext := by
  intro p hp
  cases p with
  | cp0 r =>
    cases r with
    | cause => simp at hp
    | _ => rfl
  | extInt | extIntNext => simp at hp
  | _ => rfl

theorem State.changesOnly_updateRandom (s : State) :
    s.changesOnly s.updateRandom fun p => p = .cp0 .random ∨ p = .freeIx := by
  intro p hp
  cases p with
  | cp0 r =>
    cases r with
    | random => simp at hp
    | _ => rfl
  | freeIx => simp at hp
  | _ => rfl

theorem State.changesOnly_advancePc (s : State) : s.changesOnly s.advancePc fun p => p = .prevPc ∨ p = .pc ∨ p = .nextPc
    ∨ p = .inDelaySlot ∨ p = .branchPending := by
  intro p hp
  cases p with
  | prevPc | pc | nextPc | inDelaySlot | branchPending => simp at hp
  | cp0 r => exact Cp0.agree_refl _ r
  | _ => rfl

/-- The frame of lines 1 to 4, from the frames of the four lines. -/
theorem State.changesOnly_beginStep (s : State) : s.changesOnly s.beginStep fun p => p = .prevPc ∨ p = .pc ∨ p = .nextPc
    ∨ p = .inDelaySlot ∨ p = .branchPending ∨ p = .cp0 .count ∨ p = .cp0 .cause ∨ p = .cp0 .random ∨ p = .extInt
    ∨ p = .extIntNext ∨ p = .freeIx := by
  have h1 := s.changesOnly_advanceTimer
  have h2 := s.advanceTimer.changesOnly_sampleInputs
  have h3 := s.advanceTimer.sampleInputs.changesOnly_updateRandom
  have h4 := s.advanceTimer.sampleInputs.updateRandom.changesOnly_advancePc
  refine State.changesOnly_trans (State.changesOnly_mono h1 ?_) (State.changesOnly_trans (State.changesOnly_mono h2 ?_)
    (State.changesOnly_trans (State.changesOnly_mono h3 ?_) (State.changesOnly_mono h4 ?_))) <;> grind

/-- Settles O6: the four lines, each register it writes by the lemma about that line. -/
theorem stepPrologue : Obligations.StepPrologue := by
  intro s
  refine ⟨s.beginStep_prevPc, s.beginStep_pc, s.beginStep_nextPc, s.beginStep_inDelaySlot, s.beginStep_branchPending,
    ?count, s.sampledLines_eq, rfl, ?lines, ?other, ?decrement, ?arbitrary,
    s.changesOnly_beginStep⟩
  case count =>
    change (s.cp0.cnt33 + BitVec.ofNat 33 s.countInc).toNat = _
    rw [BitVec.toNat_add, BitVec.toNat_ofNat, Nat.add_mod_mod]
  case lines => exact fun k hk => State.beginStep_cause_line hk
  case other => exact fun k hk => State.beginStep_cause_other hk
  case decrement => exact fun hw hp => State.nextRandom_of_decrement (s := s.advanceTimer.sampleInputs) hw hp
  case arbitrary => exact fun hw hp => State.nextRandom_of_arbitrary (s := s.advanceTimer.sampleInputs) hw hp

/-! ### The fetch (20_memory R108) -/

theorem toNat_append_eq {a b : Nat} (x : BitVec a) (y : BitVec b) : (x ++ y).toNat = x.toNat * 2 ^ b + y.toNat := by
  rw [BitVec.toNat_append, ← Nat.shiftLeft_add_eq_or_of_lt y.isLt, Nat.shiftLeft_eq]

/-- An aligned word of memory is the number its bytes make (R82). -/
theorem Memory.read32_toNat (m : Memory) (h : pa.toNat % 4 = 0) : (m.read32 pa).toNat = m.bigEndian pa.toNat 4 := by
  have hpa := pa.isLt
  have byte : ∀ k, k < 4 → (pa + BitVec.ofNat 32 k).toNat = pa.toNat + k := fun k hk => by
    rw [BitVec.toNat_add, BitVec.toNat_ofNat]
    omega
  simp only [Memory.read32, Memory.read16, Memory.read8, toNat_append_eq, BitVec.add_assoc]
  rw [byte 1 (by omega), byte 2 (by omega), show (2#32 + 1#32) = BitVec.ofNat 32 3 from rfl, byte 3 (by omega)]
  simp only [Memory.bigEndian, Nat.add_zero]
  omega

/-- The word an aligned fetch reads, as the number on the bus. -/
theorem State.bus32_eq_busNumber (h : pa.toNat % 4 = 0) : s.bus32 pa = BitVec.ofNat 32 (s.busNumber pa 4) := by
  apply BitVec.eq_of_toNat_eq
  rw [BitVec.toNat_ofNat]
  unfold State.bus32 State.busNumber
  split
  · rw [Memory.read32_toNat _ h, Nat.mod_eq_of_lt (Memory.read32_toNat s.mem h ▸ (s.mem.read32 pa).isLt)]
  · rw [BitVec.toNat_setWidth, State.busAnswer_toNat (by omega)]

/-- A step whose fetch reaches the bus runs the instruction it decodes. -/
theorem step_of_decode {i : Instr} (hm : s.mode ≠ .undefined) (hi : s.beginStep.interruptCondition = false)
    (hr : s.reaches s.pc 4 .fetch pa) (hd : decode (s.beginStep.bus32 pa) = .ok i) :
    step s = exec i (s.beginStep.afterRead pa 4) := by
  obtain ⟨halign, htranslate⟩ := hr
  unfold step State.fetchDecode State.fetch State.aligned
  rw [if_neg hm, hi, if_neg Bool.false_ne_true, State.beginStep_prevPc, if_pos halign,
    State.translated_ok (by simpa using htranslate)]
  simp only [hd]

/-- Settles O5: the word the fetch decodes is the number on the bus, since what is fetched from is aligned. -/
theorem stepRunsDecodedInstruction : Obligations.StepRunsDecodedInstruction := by
  intro s pa i hm hi hr hd
  have haligned : pa.toNat % 4 = 0 := State.reaches_aligned hr (by decide)
  have hstep := step_of_decode hm hi hr (by rw [State.bus32_eq_busNumber haligned]; exact hd)
  refine ⟨hstep, fun hmem => ?_⟩
  rw [hstep, State.afterRead_of_memory (by simpa using hmem)]

/-! ### The modes (10_state R54) -/

/-- What makes the mode kernel: EXL, ERL or KSU = 0. -/
def State.statusIsKernel (s : State) : Prop := s.exl = true ∨ s.erl = true ∨ s.ksu = 0#2

theorem State.mode_of_kernel (h : s.statusIsKernel) : s.mode = .kernel :=
  if_pos (by simpa [State.statusIsKernel, or_assoc] using h)

theorem State.mode_of_not_kernel (h : ¬ s.statusIsKernel) :
    s.mode = if s.ksu = 1#2 then .supervisor else if s.ksu = 2#2 then .user else .undefined := by
  unfold State.mode
  rw [if_neg (by simpa [State.statusIsKernel, or_assoc] using h)]
  simp only [beq_iff_eq]

theorem State.mode_kernel_iff (s : State) : s.mode = .kernel ↔ s.statusIsKernel := by
  refine ⟨fun h => ?_, State.mode_of_kernel⟩
  by_contra hk
  rw [State.mode_of_not_kernel hk] at h
  split at h
  · cases h
  · split at h <;> cases h

theorem State.mode_supervisor_iff (s : State) : s.mode = .supervisor ↔ ¬ s.statusIsKernel ∧ s.ksu = 1#2 := by
  by_cases hk : s.statusIsKernel
  · simp [State.mode_of_kernel hk, hk]
  · rw [State.mode_of_not_kernel hk]
    by_cases h1 : s.ksu = 1#2
    · simp [h1, hk]
    · by_cases h2 : s.ksu = 2#2 <;> simp [h1, h2]

theorem State.mode_user_iff (s : State) : s.mode = .user ↔ ¬ s.statusIsKernel ∧ s.ksu = 2#2 := by
  by_cases hk : s.statusIsKernel
  · simp [State.mode_of_kernel hk, hk]
  · rw [State.mode_of_not_kernel hk]
    by_cases h2 : s.ksu = 2#2
    · simp [h2, hk]
    · by_cases h1 : s.ksu = 1#2 <;> simp [h1, h2]

theorem State.mode_undefined (hk : ¬ s.statusIsKernel) (h3 : s.ksu = 3#2) : s.mode = .undefined := by
  rw [State.mode_of_not_kernel hk, h3]
  rfl

/-- The width flags of a mode. -/
theorem State.flags_of_kernel (h : s.mode = .kernel) : s.addr64 = s.kx ∧ s.ops64 = true := by
  simp [State.addr64, State.ops64, h]

theorem State.flags_of_supervisor (h : s.mode = .supervisor) : s.addr64 = s.sx ∧ s.ops64 = s.sx := by
  simp [State.addr64, State.ops64, h]

theorem State.flags_of_user (h : s.mode = .user) : s.addr64 = s.ux ∧ s.ops64 = s.ux := by
  simp [State.addr64, State.ops64, h]

/-- Settles O8: the three modes from Status, the width flags from the mode, the refusal from the mode that is none. -/
theorem modesAreDerived : Obligations.ModesAreDerived := fun s =>
  ⟨s.mode_kernel_iff, s.mode_supervisor_iff, s.mode_user_iff, State.flags_of_kernel, State.flags_of_supervisor,
    State.flags_of_user, fun ⟨hk, h3⟩ => if_pos (State.mode_undefined hk h3)⟩

/-! ### Reset (10_state R59) -/

theorem State.reset_tlb (j : Fin 32) : State.reset.tlb[j] = TlbEntry.atReset := Vector.getElem_replicate _

/-- Settles O12: the TLB entry by entry, every other value by evaluation. -/
theorem resetState : Obligations.ResetState := by
  refine ⟨rfl, rfl, rfl, rfl, rfl, rfl, rfl, rfl, rfl, fun j => by rw [State.reset_tlb]; rfl, rfl, rfl, rfl, rfl, rfl, rfl,
    rfl, rfl, rfl, rfl, ?_, ?_, ?_, ?_⟩ <;> decide

end Sys2Proof.Machine
end

section
/-!
Proofs/FailingAddress: recording a failing address replaces a field of Context, XContext and EntryHi and keeps the bits
outside it (20_memory R99; obligation O15).
-/

namespace Sys2Proof.Machine

/-! ### Replacing the fields of a register -/

section
variable {w n k i j : Nat}

/-- A field placed from bit `j` on reads back. -/
theorem extract_field (f : BitVec n) (h : j + n ≤ w) : (f.setWidth w <<< j).extractLsb' j n = f := by
  ext b hb
  simp [show j + b < w by omega, BitVec.getLsbD_eq_getElem, hb]

/-- A field placed from bit `j` on leaves the bits below it and above it. -/
theorem extract_field_apart (f : BitVec n) (h : i + k ≤ j ∨ j + n ≤ i) :
    (f.setWidth w <<< j).extractLsb' i k = 0#k := by
  ext b hb
  simp only [BitVec.getElem_extractLsb', BitVec.getLsbD_shiftLeft, BitVec.getLsbD_setWidth, BitVec.getElem_zero]
  rcases h with h | h
  · simp [show i + b < j by omega]
  · simp [BitVec.getLsbD_of_ge f (i + b - j) (by omega)]

/-- Masked out bits read as 0. -/
theorem extract_masked {m : BitVec w} (x : BitVec w) (h : (~~~m).extractLsb' j n = 0#n) :
    (x &&& ~~~m).extractLsb' j n = 0#n := by
  rw [BitVec.extractLsb'_and, h, BitVec.and_zero]

/-- Of two fields, one above the other, put in the place of masked out bits, the lower reads back. -/
theorem extract_lower_field {m : BitVec w} (x : BitVec w) (f : BitVec n) (g : BitVec k) (hn : j + n ≤ i)
    (hk : i + k ≤ w) (hm : (~~~m).extractLsb' j n = 0#n) :
    ((x &&& ~~~m) ||| ((f.setWidth w <<< j) ||| (g.setWidth w <<< i))).extractLsb' j n = f := by
  rw [BitVec.extractLsb'_or, BitVec.extractLsb'_or, extract_masked x hm, BitVec.zero_or, extract_field f (by omega),
    extract_field_apart g (.inl hn), BitVec.or_zero]

/-- Of two fields, one above the other, put in the place of masked out bits, the upper reads back. -/
theorem extract_upper_field {m : BitVec w} (x : BitVec w) (f : BitVec n) (g : BitVec k) (hn : j + n ≤ i)
    (hk : i + k ≤ w) (hm : (~~~m).extractLsb' i k = 0#k) :
    ((x &&& ~~~m) ||| ((f.setWidth w <<< j) ||| (g.setWidth w <<< i))).extractLsb' i k = g := by
  rw [BitVec.extractLsb'_or, BitVec.extractLsb'_or, extract_masked x hm, BitVec.zero_or,
    extract_field_apart f (.inr hn), extract_field g hk, BitVec.zero_or]

/-- New bits within a mask keep the bits outside it. -/
theorem FitsMask.keeps_others {m y : BitVec w} (h : FitsMask m y) (x : BitVec w) :
    ((x &&& ~~~m) ||| y) &&& ~~~m = x &&& ~~~m := by
  rw [BitVec.and_or_distrib_right, h, BitVec.or_zero, BitVec.and_assoc, BitVec.and_self]

end

/-! ### Recording a failing address (20_memory R99) -/

section
variable (s : State) (va : Dword)

theorem State.recordFaultAddress_context : (s.recordFaultAddress va).cp0.context =
    (s.cp0.context &&& ~~~0x7FFFF0#64) ||| ((va.extractLsb' 13 19).setWidth 64 <<< 4) := rfl

theorem State.recordFaultAddress_xContext : (s.recordFaultAddress va).cp0.xContext =
    (s.cp0.xContext &&& ~~~0x1FFFFFFF0#64) |||
      (((va.extractLsb' 13 27).setWidth 64 <<< 4) ||| ((va.extractLsb' 62 2).setWidth 64 <<< 31)) :=
  BitVec.or_assoc ..

theorem State.recordFaultAddress_entryHi : (s.recordFaultAddress va).cp0.entryHi =
    (s.cp0.entryHi &&& ~~~0xC00000FFFFFFE000#64) |||
      (((va.extractLsb' 13 27).setWidth 64 <<< 13) ||| ((va.extractLsb' 62 2).setWidth 64 <<< 62)) :=
  BitVec.or_assoc ..

theorem State.recordFaultAddress_badVPN2 :
    (s.recordFaultAddress va).cp0.context.extractLsb' 4 19 = va.extractLsb' 13 19 := by
  rw [State.recordFaultAddress_context, BitVec.extractLsb'_or, extract_masked _ (by rfl), BitVec.zero_or,
    extract_field _ (by omega)]

theorem State.recordFaultAddress_xBadVPN2 :
    (s.recordFaultAddress va).cp0.xContext.extractLsb' 4 27 = va.extractLsb' 13 27 := by
  rw [State.recordFaultAddress_xContext, extract_lower_field _ _ _ (by omega) (by omega) (by rfl)]

theorem State.recordFaultAddress_xR :
    (s.recordFaultAddress va).cp0.xContext.extractLsb' 31 2 = va.extractLsb' 62 2 := by
  rw [State.recordFaultAddress_xContext, extract_upper_field _ _ _ (by omega) (by omega) (by rfl)]

theorem State.recordFaultAddress_vpn2 :
    (s.recordFaultAddress va).cp0.entryHi.extractLsb' 13 27 = va.extractLsb' 13 27 := by
  rw [State.recordFaultAddress_entryHi, extract_lower_field _ _ _ (by omega) (by omega) (by rfl)]

theorem State.recordFaultAddress_r :
    (s.recordFaultAddress va).cp0.entryHi.extractLsb' 62 2 = va.extractLsb' 62 2 := by
  rw [State.recordFaultAddress_entryHi, extract_upper_field _ _ _ (by omega) (by omega) (by rfl)]

end

/-- Settles O15: each field reads back, and the new fields fit the masks of the bits they replace. -/
theorem failingAddressRecorded : Obligations.FailingAddressRecorded := by
  intro s va
  refine ⟨s.recordFaultAddress_cp0_badVAddr va, s.recordFaultAddress_badVPN2 va, ?context,
    s.recordFaultAddress_xBadVPN2 va, s.recordFaultAddress_xR va, ?xContext, s.recordFaultAddress_vpn2 va,
    s.recordFaultAddress_r va, ?entryHi, s.changesOnly_recordFaultAddress va⟩
  case context =>
    rw [State.recordFaultAddress_context]
    exact FitsMask.keeps_others (.field (va.extractLsb' 13 19) 4 rfl) _
  case xContext =>
    rw [State.recordFaultAddress_xContext]
    exact FitsMask.keeps_others (.or (.field (va.extractLsb' 13 27) 4 rfl) (.field (va.extractLsb' 62 2) 31 rfl)) _
  case entryHi =>
    rw [State.recordFaultAddress_entryHi]
    exact FitsMask.keeps_others (.or (.field (va.extractLsb' 13 27) 13 rfl) (.field (va.extractLsb' 62 2) 62 rfl)) _

end Sys2Proof.Machine
end

section
/-!
Proofs/BigEndian: the bytes of aligned reads and writes as numbers, and what the bus answers and takes by the platform's
map (20_memory R81, R82, R86; obligation O24).
-/

namespace Sys2Proof.Machine

/-! ### Aligned reads (R82) -/

section
variable {m : Memory} {pa : Word} {a k n : Nat}

/-- The bytes of an aligned access lie at its own address on, without a carry out of the 32 bits. -/
theorem toNat_add_of_aligned (hn : n ∣ 2 ^ 32) (h : pa.toNat % n = 0) (hk : k < n) :
    (pa + BitVec.ofNat 32 k).toNat = pa.toNat + k := by
  obtain ⟨c, hc⟩ := hn
  obtain ⟨q, hq⟩ := Nat.dvd_of_mod_eq_zero h
  have hlt : q + 1 ≤ c := Nat.lt_of_mul_lt_mul_left (a := n) (by rw [← hq, ← hc]; exact pa.isLt)
  have hle : n * (q + 1) ≤ 2 ^ 32 := hc ▸ Nat.mul_le_mul_left n hlt
  rw [Nat.mul_succ, ← hq] at hle
  rw [BitVec.toNat_add, BitVec.toNat_ofNat]
  omega

/-- A big-endian number is its first bytes, then the others. -/
theorem Memory.bigEndian_add (m : Memory) (a n k : Nat) :
    m.bigEndian a (n + k) = m.bigEndian a n * 256 ^ k + m.bigEndian (a + n) k := by
  induction k with
  | zero => simp [Memory.bigEndian]
  | succ k ih =>
    rw [← Nat.add_assoc, Memory.bigEndian, Memory.bigEndian, ih, Nat.pow_succ, Nat.add_assoc a n k]
    ring

/-- An aligned halfword of memory is the number its bytes make. -/
theorem Memory.read16_toNat (m : Memory) (h : pa.toNat % 2 = 0) : (m.read16 pa).toNat = m.bigEndian pa.toNat 2 := by
  have hlast : (pa + 1#32).toNat = pa.toNat + 1 := toNat_add_of_aligned (by decide) h (by decide)
  rw [Memory.read16, toNat_append_eq, Memory.read8, Memory.read8, hlast]
  simp only [Memory.bigEndian, Nat.add_zero]
  omega

/-- An aligned doubleword of memory is the number its bytes make. -/
theorem Memory.read64_toNat (m : Memory) (h : pa.toNat % 8 = 0) : (m.read64 pa).toNat = m.bigEndian pa.toNat 8 := by
  have hlow : (pa + 4#32).toNat = pa.toNat + 4 := toNat_add_of_aligned (by decide) h (by decide)
  rw [Memory.read64, toNat_append_eq, Memory.read32_toNat m (by omega), Memory.read32_toNat m (by omega), hlow,
    show 8 = 4 + 4 from rfl, Memory.bigEndian_add, show 256 ^ 4 = 2 ^ 32 from rfl]

/-- A word is the number it is read as. -/
theorem eq_ofNat_of_toNat {w : Nat} {x : BitVec w} (h : x.toNat = a) : x = BitVec.ofNat w a := by
  rw [← h, BitVec.ofNat_toNat, BitVec.setWidth_eq]

theorem Memory.read8_toNat (m : Memory) (pa : Word) : (m.read8 pa).toNat = m.bigEndian pa.toNat 1 := by
  simp [Memory.read8, Memory.bigEndian]

/-! ### Aligned writes (R82) -/

/-- The low `n` bytes of `v` stand from an address on, the most significant first: they make the number `v`. -/
theorem Memory.bigEndian_of_bytes {v : Nat} (h : ∀ k, k < n → m.read (a + k) = BitVec.ofNat 8 (v / 256 ^ (n - 1 - k))) :
    m.bigEndian a n = v % 256 ^ n := by
  induction n generalizing v with
  | zero => simp [Memory.bigEndian, Nat.mod_one]
  | succ n ih =>
    have hinit : m.bigEndian a n = v / 256 % 256 ^ n := ih fun k hk => by
      rw [h k (by omega), Nat.div_div_eq_div_mul, ← Nat.pow_succ', show n + 1 - 1 - k = n - 1 - k + 1 by omega]
    rw [Memory.bigEndian, hinit, h n (by omega), Nat.add_sub_cancel, Nat.sub_self, Nat.pow_zero, Nat.div_one,
      BitVec.toNat_ofNat, Nat.pow_succ' (n := n), Nat.mod_mul]
    omega

/-- A byte of a number. -/
theorem extract_byte {w : Nat} (v : BitVec w) (j : Nat) :
    v.extractLsb' (8 * j) 8 = BitVec.ofNat 8 (v.toNat / 256 ^ j) := by
  rw [show 256 ^ j = 2 ^ (8 * j) by rw [Nat.pow_mul], ← Nat.shiftRight_eq_div_pow]
  rfl

/-- Every byte of an aligned halfword store. -/
theorem Memory.read_write16_byte (h : m.wf = true) (hp : pa.toNat % 2 = 0) (v : Half) (hk : k < 2) :
    (m.write16 pa v).read (pa.toNat + k) = BitVec.ofNat 8 (v.toNat / 256 ^ (2 - 1 - k)) := by
  have h1 : (pa + 1#32).toNat = pa.toNat + 1 := toNat_add_of_aligned (by decide) hp (by decide)
  rw [Memory.read_write16 h, h1, ← extract_byte]
  interval_cases k <;> simp

/-- Every byte of an aligned word store. -/
theorem Memory.read_write32_byte (h : m.wf = true) (hp : pa.toNat % 4 = 0) (v : Word) (hk : k < 4) :
    (m.write32 pa v).read (pa.toNat + k) = BitVec.ofNat 8 (v.toNat / 256 ^ (4 - 1 - k)) := by
  have hbyte : ∀ j < 4, (pa + BitVec.ofNat 32 j).toNat = pa.toNat + j := fun j =>
    toNat_add_of_aligned (by decide) hp
  rw [Memory.read_write32 h, hbyte 3 (by decide), hbyte 2 (by decide), hbyte 1 (by decide), ← extract_byte]
  interval_cases k <;> simp

/-- Every byte of an aligned doubleword store. -/
theorem Memory.read_write64_byte (h : m.wf = true) (hp : pa.toNat % 8 = 0) (v : Dword) (hk : k < 8) :
    (m.write64 pa v).read (pa.toNat + k) = BitVec.ofNat 8 (v.toNat / 256 ^ (8 - 1 - k)) := by
  have hbyte : ∀ j < 8, (pa + BitVec.ofNat 32 j).toNat = pa.toNat + j := fun j =>
    toNat_add_of_aligned (by decide) hp
  rw [Memory.read_write64 h, hbyte 7 (by decide), hbyte 6 (by decide), hbyte 5 (by decide), hbyte 4 (by decide),
    hbyte 3 (by decide), hbyte 2 (by decide), hbyte 1 (by decide), ← extract_byte]
  interval_cases k <;> simp

theorem Memory.bigEndian_write16 (h : m.wf = true) (hp : pa.toNat % 2 = 0) (v : Half) :
    (m.write16 pa v).bigEndian pa.toNat 2 = v.toNat :=
  (Memory.bigEndian_of_bytes fun _ => Memory.read_write16_byte h hp v).trans (Nat.mod_eq_of_lt v.isLt)

theorem Memory.bigEndian_write32 (h : m.wf = true) (hp : pa.toNat % 4 = 0) (v : Word) :
    (m.write32 pa v).bigEndian pa.toNat 4 = v.toNat :=
  (Memory.bigEndian_of_bytes fun _ => Memory.read_write32_byte h hp v).trans (Nat.mod_eq_of_lt v.isLt)

theorem Memory.bigEndian_write64 (h : m.wf = true) (hp : pa.toNat % 8 = 0) (v : Dword) :
    (m.write64 pa v).bigEndian pa.toNat 8 = v.toNat :=
  (Memory.bigEndian_of_bytes fun _ => Memory.read_write64_byte h hp v).trans (Nat.mod_eq_of_lt v.isLt)

/-- An address below or above an access is none of its bytes. -/
theorem not_bytesAt (h : a < pa.toNat ∨ pa.toNat + n ≤ a) : ¬ bytesAt pa n (.byte a) := by
  rintro ⟨k, hk, e⟩
  injection e with e
  omega

end

/-! ### The platform's map (R81) -/

section
variable {s : State} {pa : Word} {n : Nat}

/-- A region covers the addresses that are not outside it. -/
theorem BusRegion.covers_iff (r : BusRegion) (pa : Word) : r.covers pa = true ↔ ¬ (pa < r.first ∨ r.last < pa) := by
  rw [BusRegion.covers, Bool.and_eq_true, decide_eq_true_eq, decide_eq_true_eq, not_or, BitVec.not_lt, BitVec.not_lt]

theorem State.busKind_of_uncovered (h : ∀ r ∈ s.busMap, pa < r.first ∨ r.last < pa) : s.busKind pa = .ram := by
  have hnone : s.busMap.find? (·.covers pa) = none :=
    List.find?_eq_none.2 fun r hr hc => (r.covers_iff pa).1 hc (h r hr)
  rw [State.busKind, hnone]

theorem State.busKind_of_first {before after : List BusRegion} {r : BusRegion} (hmap : s.busMap = before ++ r :: after)
    (hbefore : ∀ q ∈ before, pa < q.first ∨ q.last < pa) (hr : ¬ (pa < r.first ∨ r.last < pa)) :
    s.busKind pa = r.kind := by
  have hfind : s.busMap.find? (·.covers pa) = some r := by
    refine List.find?_eq_some_iff_append.2 ⟨(r.covers_iff pa).2 hr, before, after, hmap, fun q hq => ?_⟩
    rw [Bool.not_eq_true', ← Bool.not_eq_true, BusRegion.covers_iff, not_not]
    exact hbefore q hq
  rw [State.busKind, hfind]

theorem State.isMemory_eq_false (h : s.busKind pa = .device ∨ s.busKind pa = .undecoded) : s.isMemory pa = false := by
  rw [State.isMemory]
  rcases h with h | h <;> rw [h] <;> rfl

/-! ### Bus reads outside memory (R86) -/

theorem State.bus8_toNat_outside (h : s.isMemory pa = false) :
    (s.bus8 pa).toNat = (Config.busAnswer s.freeIx s.busTrace pa 1).toNat % 256 ^ 1 := by
  simp [State.bus8, h, State.busAnswer_toNat]

theorem State.bus16_toNat_outside (h : s.isMemory pa = false) :
    (s.bus16 pa).toNat = (Config.busAnswer s.freeIx s.busTrace pa 2).toNat % 256 ^ 2 := by
  simp [State.bus16, h, State.busAnswer_toNat]

theorem State.bus32_toNat_outside (h : s.isMemory pa = false) :
    (s.bus32 pa).toNat = (Config.busAnswer s.freeIx s.busTrace pa 4).toNat % 256 ^ 4 := by
  simp [State.bus32, h, State.busAnswer_toNat]

theorem State.bus64_toNat_outside (h : s.isMemory pa = false) :
    (s.bus64 pa).toNat = (Config.busAnswer s.freeIx s.busTrace pa 8).toNat % 256 ^ 8 := by
  simp only [State.bus64, h, Bool.false_eq_true, if_false, State.busAnswer_toNat (Nat.le_refl 8)]

/-- The platform sees a read outside memory, with its own answer. -/
theorem State.afterRead_busTrace_outside (h : s.isMemory pa = false) (hn : n ≤ 8) :
    (s.afterRead pa n).busTrace =
      { write := false, pa := pa, bytes := n,
        value := BitVec.ofNat 64 ((Config.busAnswer s.freeIx s.busTrace pa n).toNat % 256 ^ n) } :: s.busTrace := by
  simp [State.afterRead_busTrace hn, State.seenAfterRead, State.busNumber, h]

/-! ### Bus writes (R86) -/

/-- What a bus write of the low `n` bytes of `v` does, by what stands at the address: RAM becomes `m`, a device sees
the write, elsewhere it is lost. -/
def State.takesWrite (s : State) (pa : Word) (v : Dword) (n : Nat) (t : State) (m : Memory) : Prop :=
  (s.busKind pa = .ram → t = s.setMem m)
  ∧ (s.busKind pa = .device → s.changesOnly t (· = .busTrace) ∧ t.busTrace =
      { write := true, pa := pa, bytes := n, value := BitVec.ofNat 64 (v.toNat % 256 ^ n) } :: s.busTrace)
  ∧ (s.busKind pa = .rom ∨ s.busKind pa = .undecoded → t = s)

theorem State.takesWrite_busWrite (s : State) (pa : Word) (v x : Dword) (n : Nat) (m : Memory)
    (hx : x = BitVec.ofNat 64 (v.toNat % 256 ^ n)) : s.takesWrite pa v n (s.busWrite pa n x m) m := by
  refine ⟨fun h => State.busWrite_of_ram h n x m, fun h => ⟨?frame, ?seen⟩, fun h => State.busWrite_lost h n x m⟩
  case frame => exact s.changesOnly_busWrite pa n x m (fun hr => by simp [h] at hr) fun _ => rfl
  case seen => rw [State.busWrite_of_device h, State.traced_busTrace, hx]

/-- The low bytes of a doubleword, as the bus carries them. -/
theorem zext64_setWidth (v : Dword) (n : Nat) :
    zext64 (v.setWidth (8 * n)) = BitVec.ofNat 64 (v.toNat % 256 ^ n) := by
  have e : (256 : Nat) ^ n = 2 ^ (8 * n) := by rw [Nat.pow_mul]
  apply BitVec.eq_of_toNat_eq
  rw [zext64, BitVec.toNat_setWidth, BitVec.toNat_setWidth, BitVec.toNat_ofNat, e]

end

/-! ### The obligation -/

/-- Settles O24: aligned accesses byte by byte, and the bus by what stands at the address. -/
theorem memoryIsBigEndian : Obligations.MemoryIsBigEndian := by
  refine ⟨fun m pa h => ?bytes, fun s pa v => ⟨State.busKind_of_uncovered,
    fun before r after => State.busKind_of_first, fun h => ?memory, fun h => ?outside, fun w hw => ?writes⟩⟩
  case bytes =>
    exact ⟨eq_ofNat_of_toNat (m.read8_toNat pa), fun hp => eq_ofNat_of_toNat (m.read16_toNat hp),
      fun hp => eq_ofNat_of_toNat (m.read32_toNat hp), fun hp => eq_ofNat_of_toNat (m.read64_toNat hp),
      fun v => ⟨Memory.wf_write8 h pa v, Memory.read_write8 h pa v⟩,
      fun hp v => ⟨Memory.wf_write16 h pa v, Memory.bigEndian_write16 h hp v,
        fun _ ha => Memory.read_write16_outside h pa v hp (not_bytesAt ha)⟩,
      fun hp v => ⟨Memory.wf_write32 h pa v, Memory.bigEndian_write32 h hp v,
        fun _ ha => Memory.read_write32_outside h pa v hp (not_bytesAt ha)⟩,
      fun hp v => ⟨Memory.wf_write64 h pa v, Memory.bigEndian_write64 h hp v,
        fun _ ha => Memory.read_write64_outside h pa v hp (not_bytesAt ha)⟩⟩
  case memory =>
    have hm := State.isMemory_iff.2 h
    exact ⟨State.bus8_of_memory hm, State.bus16_of_memory hm, State.bus32_of_memory hm, State.bus64_of_memory hm,
      State.afterRead_of_memory hm⟩
  case outside =>
    have hm := State.isMemory_eq_false h
    exact ⟨State.bus8_toNat_outside hm, State.bus16_toNat_outside hm, State.bus32_toNat_outside hm,
      State.bus64_toNat_outside hm, fun n hn => ⟨s.changesOnly_afterRead pa n fun _ => rfl,
        State.afterRead_busTrace_outside hm hn⟩⟩
  case writes =>
    suffices h : s.takesWrite pa v w.1 w.2.1 w.2.2 from h
    simp only [List.mem_cons, List.not_mem_nil, or_false] at hw
    rcases hw with rfl | rfl | rfl | rfl
    · exact s.takesWrite_busWrite pa v _ 1 _ (zext64_setWidth v 1)
    · exact s.takesWrite_busWrite pa v _ 2 _ (zext64_setWidth v 2)
    · exact s.takesWrite_busWrite pa v _ 4 _ (zext64_setWidth v 4)
    · exact s.takesWrite_busWrite pa v _ 8 _ (eq_ofNat_of_toNat (Nat.mod_eq_of_lt v.isLt).symm)

end Sys2Proof.Machine
end

section
/-!
Proofs/Segments: the address maps of the three modes, on the address as a signed number for the 32-bit map and as an
unsigned one for the 64-bit map (20_memory R88 to R93; obligations O25, O26).
-/

namespace Sys2Proof.Machine

variable {s : State} {m : Mode} {va : Dword} {pa : Word}

/-! ### A translation, by the region of the address (R94) -/

theorem State.translate_of_mapped (kind : Access) (h : region s.mode s.addr64 va = .mapped) :
    s.translate va kind = tlbLookup s.tlb s.asid va kind := by rw [State.translate, h]

theorem State.translate_of_unmapped (kind : Access) (h : region s.mode s.addr64 va = .unmapped pa) :
    s.translate va kind = .ok pa := by rw [State.translate, h]

theorem State.translate_of_disallowed (kind : Access) (h : region s.mode s.addr64 va = .disallowed) :
    s.translate va kind = .error .disallowed := by rw [State.translate, h]

/-- A window: an unmapped segment in kernel mode under `c`, disallowed without. -/
theorem State.translate_of_window {c : Prop} [Decidable c] (kind : Access)
    (h : region s.mode s.addr64 va = if c then .unmapped pa else .disallowed) :
    if c then s.translate va kind = .ok pa else s.translate va kind = .error .disallowed := by
  split <;> rename_i hc
  · exact State.translate_of_unmapped kind (h.trans (if_pos hc))
  · exact State.translate_of_disallowed kind (h.trans (if_neg hc))

/-- A segment that is mapped under `c` and disallowed without. -/
theorem State.translate_of_segment {c : Prop} [Decidable c] (kind : Access)
    (h : region s.mode s.addr64 va = if c then .mapped else .disallowed) :
    if c then s.translate va kind = tlbLookup s.tlb s.asid va kind else s.translate va kind = .error .disallowed := by
  split <;> rename_i hc
  · exact State.translate_of_mapped kind (h.trans (if_pos hc))
  · exact State.translate_of_disallowed kind (h.trans (if_neg hc))

/-- A segment that is disallowed under `c` and mapped without. -/
theorem State.translate_of_segment_unless {c : Prop} [Decidable c] (kind : Access)
    (h : region s.mode s.addr64 va = if c then .disallowed else .mapped) :
    if c then s.translate va kind = .error .disallowed else s.translate va kind = tlbLookup s.tlb s.asid va kind := by
  split <;> rename_i hc
  · exact State.translate_of_disallowed kind (h.trans (if_pos hc))
  · exact State.translate_of_mapped kind (h.trans (if_neg hc))

/-! ### The low word of an address -/

theorem lo32_toNat (va : Dword) : (lo32 va).toNat = va.toNat % 2 ^ 32 := by simp [lo32]

/-- The sign extension of the low word, as a signed number. -/
theorem sext64_lo32_toInt (va : Dword) : (sext64 (lo32 va)).toInt = (va.toNat : Int).bmod (2 ^ 32) := by
  rw [sext64, BitVec.toInt_signExtend_of_le (by decide), BitVec.toInt_eq_toNat_bmod, lo32_toNat,
    Int.natCast_mod]
  exact Int.emod_bmod _ (2 ^ 32)

/-- An address is a sign-extended word when its signed number is one of 32 bits (R89). -/
theorem eq_sext64_lo32_iff : va = sext64 (lo32 va) ↔ -2 ^ 31 ≤ va.toInt ∧ va.toInt < 2 ^ 31 := by
  have hva := va.isLt
  rw [← BitVec.toInt_inj, sext64_lo32_toInt, BitVec.toInt_eq_toNat_bmod, Int.bmod_def, Int.bmod_def]
  omega

/-! ### The 32-bit map (R89, R90) -/

theorem region32_of_large (h : va.toInt < -2 ^ 31 ∨ 2 ^ 31 ≤ va.toInt) : region m false va = .disallowed := by
  have hne : ¬ va = sext64 (lo32 va) := fun e => by have := eq_sext64_lo32_iff.1 e; omega
  simp [region, hne]

theorem region32_of_small (h : -2 ^ 31 ≤ va.toInt ∧ va.toInt < 2 ^ 31) : region m false va = segment32 m va := by
  simp [region, ← eq_sext64_lo32_iff.2 h]

theorem lo32_toNat_of_nonneg (h : 0 ≤ va.toInt ∧ va.toInt < 2 ^ 31) : ((lo32 va).toNat : Int) = va.toInt := by
  have hva := va.isLt
  rw [lo32_toNat]
  rw [BitVec.toInt_eq_toNat_bmod, Int.bmod_def] at *
  omega

theorem lo32_toNat_of_neg (h : -2 ^ 31 ≤ va.toInt ∧ va.toInt < 0) :
    ((lo32 va).toNat : Int) = va.toInt + 2 ^ 32 := by
  have hva := va.isLt
  rw [lo32_toNat]
  rw [BitVec.toInt_eq_toNat_bmod, Int.bmod_def] at *
  omega

/-- A window of the kernel on the low physical addresses, by the signed number of its first address. -/
theorem lo32_sub_eq_ofInt {c : Word} (h : -2 ^ 31 ≤ va.toInt ∧ va.toInt < 0) :
    lo32 va - c = BitVec.ofInt 32 (va.toInt + (2 ^ 32 - c.toNat)) := by
  have hlo := lo32_toNat_of_neg h
  have hc := c.isLt
  apply BitVec.eq_of_toNat_eq
  rw [BitVec.toNat_sub, BitVec.toNat_ofInt]
  omega

/-! What each segment is in each mode. The undefined mode has no segment. -/

theorem region32_useg (hm : m ≠ .undefined) (h : 0 ≤ va.toInt ∧ va.toInt < 2 ^ 31) : region m false va = .mapped := by
  have hlo := lo32_toNat_of_nonneg h
  rw [region32_of_small (by omega)]
  cases m <;> grind [segment32]

theorem region32_kseg0 (h : -0x80000000 ≤ va.toInt ∧ va.toInt < -0x60000000) :
    region m false va =
      if m = .kernel then .unmapped (BitVec.ofInt 32 (va.toInt + 0x80000000)) else .disallowed := by
  have hlo := lo32_toNat_of_neg (va := va) (by omega)
  have hpa : lo32 va - 0x80000000#32 = BitVec.ofInt 32 (va.toInt + 0x80000000) := lo32_sub_eq_ofInt (by omega)
  rw [region32_of_small (by omega), ← hpa]
  cases m <;> grind [segment32, kseg0]

theorem region32_kseg1 (h : -0x60000000 ≤ va.toInt ∧ va.toInt < -0x40000000) :
    region m false va =
      if m = .kernel then .unmapped (BitVec.ofInt 32 (va.toInt + 0x60000000)) else .disallowed := by
  have hlo := lo32_toNat_of_neg (va := va) (by omega)
  have hpa : lo32 va - 0xA0000000#32 = BitVec.ofInt 32 (va.toInt + 0x60000000) := lo32_sub_eq_ofInt (by omega)
  rw [region32_of_small (by omega), ← hpa]
  cases m <;> grind [segment32, kseg1]

theorem region32_ksseg (hm : m ≠ .undefined) (h : -0x40000000 ≤ va.toInt ∧ va.toInt < -0x20000000) :
    region m false va = if m = .user then .disallowed else .mapped := by
  have hlo := lo32_toNat_of_neg (va := va) (by omega)
  rw [region32_of_small (by omega)]
  cases m <;> grind [segment32]

theorem region32_kseg3 (h : -0x20000000 ≤ va.toInt ∧ va.toInt < 0) :
    region m false va = if m = .kernel then .mapped else .disallowed := by
  have hlo := lo32_toNat_of_neg (va := va) (by omega)
  rw [region32_of_small (by omega)]
  cases m <;> grind [segment32]

/-- Settles O25: each segment of the 32-bit map is one region in each mode. -/
theorem segments32 : Obligations.Segments32 := by
  intro s va kind ha hm
  have hregion : ∀ r, region s.mode false va = r → region s.mode s.addr64 va = r := fun r hr => by rw [ha, hr]
  exact ⟨fun h => State.translate_of_disallowed kind (hregion _ (region32_of_large h)),
    fun h => State.translate_of_mapped kind (hregion _ (region32_useg hm h)),
    fun h => State.translate_of_window kind (hregion _ (region32_kseg0 h)),
    fun h => State.translate_of_window kind (hregion _ (region32_kseg1 h)),
    fun h => State.translate_of_segment_unless kind (hregion _ (region32_ksseg hm h)),
    fun h => State.translate_of_segment kind (hregion _ (region32_kseg3 h))⟩

/-! ### The 64-bit map (R91 to R93) -/

/-- The unused bits of XKPHYS (R93). -/
theorem xkphys_eq (va : Dword) :
    xkphys va = if va.toNat / 2 ^ 32 % 2 ^ 27 = 0 then .unmapped (BitVec.ofNat 32 va.toNat) else .disallowed := by
  have hbits : va.extractLsb' 32 27 = 0#27 ↔ va.toNat / 2 ^ 32 % 2 ^ 27 = 0 := by
    rw [← BitVec.toNat_inj, BitVec.extractLsb'_toNat, Nat.shiftRight_eq_div_pow]
    rfl
  have hpa : lo32 va = BitVec.ofNat 32 va.toNat := rfl
  simp only [xkphys, hbits, hpa]

/-- A compatibility window on the low physical addresses, by its first address `b`. -/
theorem lo32_sub_eq_ofNat {c : Word} {b : Nat} (hb : b % 2 ^ 32 = c.toNat) (h : b ≤ va.toNat) :
    lo32 va - c = BitVec.ofNat 32 (va.toNat - b) := by
  have hc := c.isLt
  apply BitVec.eq_of_toNat_eq
  rw [BitVec.toNat_sub, lo32_toNat, BitVec.toNat_ofNat]
  omega

theorem region_addr64 (m : Mode) (va : Dword) : region m true va = segment64 m va := rfl

theorem region64_xuseg (hm : m ≠ .undefined) (h : va.toNat < 2 ^ 40) : region m true va = .mapped := by
  rw [region_addr64]
  cases m <;> grind [segment64]

theorem region64_xsseg (hm : m ≠ .undefined) (h : 2 ^ 62 ≤ va.toNat ∧ va.toNat < 2 ^ 62 + 2 ^ 40) :
    region m true va = if m = .user then .disallowed else .mapped := by
  rw [region_addr64]
  cases m <;> grind [segment64]

theorem region64_xkphys (h : 2 ^ 63 ≤ va.toNat ∧ va.toNat < 2 ^ 63 + 2 ^ 62) :
    region m true va = if m = .kernel ∧ va.toNat / 2 ^ 32 % 2 ^ 27 = 0 then .unmapped (BitVec.ofNat 32 va.toNat)
      else .disallowed := by
  have hx := xkphys_eq va
  rw [region_addr64]
  cases m <;> grind [segment64]

theorem region64_xkseg (h : 2 ^ 63 + 2 ^ 62 ≤ va.toNat ∧ va.toNat < 2 ^ 63 + 2 ^ 62 + 2 ^ 40 - 2 ^ 31) :
    region m true va = if m = .kernel then .mapped else .disallowed := by
  rw [region_addr64]
  cases m <;> grind [segment64]

theorem region64_ckseg0 (h : 2 ^ 64 - 0x80000000 ≤ va.toNat ∧ va.toNat < 2 ^ 64 - 0x60000000) :
    region m true va = if m = .kernel then .unmapped (BitVec.ofNat 32 (va.toNat - (2 ^ 64 - 0x80000000)))
      else .disallowed := by
  have hpa : lo32 va - 0x80000000#32 = BitVec.ofNat 32 (va.toNat - (2 ^ 64 - 0x80000000)) :=
    lo32_sub_eq_ofNat (by decide) h.1
  rw [region_addr64, ← hpa]
  cases m <;> grind [segment64, kseg0]

theorem region64_ckseg1 (h : 2 ^ 64 - 0x60000000 ≤ va.toNat ∧ va.toNat < 2 ^ 64 - 0x40000000) :
    region m true va = if m = .kernel then .unmapped (BitVec.ofNat 32 (va.toNat - (2 ^ 64 - 0x60000000)))
      else .disallowed := by
  have hpa : lo32 va - 0xA0000000#32 = BitVec.ofNat 32 (va.toNat - (2 ^ 64 - 0x60000000)) :=
    lo32_sub_eq_ofNat (by decide) h.1
  rw [region_addr64, ← hpa]
  cases m <;> grind [segment64, kseg1]

theorem region64_cksseg (hm : m ≠ .undefined) (h : 2 ^ 64 - 0x40000000 ≤ va.toNat ∧ va.toNat < 2 ^ 64 - 0x20000000) :
    region m true va = if m = .user then .disallowed else .mapped := by
  rw [region_addr64]
  cases m <;> grind [segment64]

theorem region64_ckseg3 (h : 2 ^ 64 - 0x20000000 ≤ va.toNat) :
    region m true va = if m = .kernel then .mapped else .disallowed := by
  rw [region_addr64]
  cases m <;> grind [segment64]

theorem region64_hole (h : (2 ^ 40 ≤ va.toNat ∧ va.toNat < 2 ^ 62) ∨ (2 ^ 62 + 2 ^ 40 ≤ va.toNat ∧ va.toNat < 2 ^ 63)
    ∨ (2 ^ 63 + 2 ^ 62 + 2 ^ 40 - 2 ^ 31 ≤ va.toNat ∧ va.toNat < 2 ^ 64 - 0x80000000)) :
    region m true va = .disallowed := by
  rw [region_addr64]
  cases m <;> grind [segment64]

/-- 64-bit addresses are those of a mode. -/
theorem State.mode_ne_undefined_of_addr64 (h : s.addr64 = true) : s.mode ≠ .undefined := by
  intro hm
  simp [State.addr64, hm] at h

/-- Settles O26: each segment and each hole of the 64-bit map is one region in each mode. -/
theorem segments64 : Obligations.Segments64 := by
  intro s va kind ha
  have hm := State.mode_ne_undefined_of_addr64 ha
  have hregion : ∀ r, region s.mode true va = r → region s.mode s.addr64 va = r := fun r hr => by rw [ha, hr]
  exact ⟨fun h => State.translate_of_mapped kind (hregion _ (region64_xuseg hm h)),
    fun h => State.translate_of_segment_unless kind (hregion _ (region64_xsseg hm h)),
    fun h => State.translate_of_window kind (hregion _ (region64_xkphys h)),
    fun h => State.translate_of_segment kind (hregion _ (region64_xkseg h)),
    fun h => State.translate_of_window kind (hregion _ (region64_ckseg0 h)),
    fun h => State.translate_of_window kind (hregion _ (region64_ckseg1 h)),
    fun h => State.translate_of_segment_unless kind (hregion _ (region64_cksseg hm h)),
    fun h => State.translate_of_segment kind (hregion _ (region64_ckseg3 h)),
    fun h => State.translate_of_disallowed kind (hregion _ (region64_hole h))⟩

end Sys2Proof.Machine
end

section
/-!
Proofs/TlbLookup: an entry of a page size, the entry that decides a lookup, and the entry TLBWI writes (20_memory R95 to
R97, R101, 45_cp0 R377; obligations O27, O28). A mask of `k` page-size steps is `4 ^ k - 1`; a page of the pair has
`4096 * 4 ^ k` bytes.
-/

namespace Sys2Proof.Machine

variable {e : TlbEntry} {k : Nat}

/-! ### The page size of an entry (R96) -/

/-- Masking out the low `i` bits rounds down. -/
theorem toNat_and_not_ones {w i : Nat} (x m : BitVec w) (hm : m.toNat = 2 ^ i - 1) :
    (x &&& ~~~m).toNat = x.toNat / 2 ^ i * 2 ^ i := by
  apply Nat.eq_of_testBit_eq
  intro b
  rw [Nat.testBit_mul_two_pow, Nat.testBit_div_two_pow, BitVec.testBit_toNat, BitVec.getLsbD_and, BitVec.getLsbD_not,
    ← BitVec.testBit_toNat m, hm, Nat.testBit_two_pow_sub_one]
  by_cases hb : i ≤ b
  · simpa [hb, Nat.not_lt.2 hb, Nat.sub_add_cancel hb, BitVec.testBit_toNat] using BitVec.lt_of_getLsbD
  · simp [hb, Nat.lt_of_not_le hb]

/-- The size of one page of the entry, as a power of two. -/
theorem page_eq_two_pow (k : Nat) : 4096 * 4 ^ k = 2 ^ (12 + 2 * k) := by
  rw [Nat.pow_add, Nat.pow_mul]

/-- The largest page is of 16 megabytes, `4096 * 4 ^ 6`. -/
theorem four_pow_bounds (hk : k ≤ 6) : 0 < 4 ^ k ∧ 4 ^ k ≤ 4 ^ 6 :=
  ⟨Nat.pow_pos (by decide), Nat.pow_le_pow_right (by decide) hk⟩

/-- `pairmask >> 1` is the size of a page minus 1 (R96). -/
theorem TlbEntry.offMask_toNat (hk : k ≤ 6) (h : e.mask.toNat = 4 ^ k - 1) : e.offMask.toNat = 4096 * 4 ^ k - 1 := by
  obtain ⟨hpos, hle⟩ := four_pow_bounds hk
  have hor : (e.mask.toNat <<< 13 ||| 0x1FFF) = e.mask.toNat * 8192 + 0x1FFF := by
    rw [← Nat.shiftLeft_add_eq_or_of_lt (by decide), Nat.shiftLeft_eq]
  have hfits : (e.mask.toNat <<< 13) % 2 ^ 32 = e.mask.toNat <<< 13 := by
    rw [Nat.shiftLeft_eq]
    omega
  rw [TlbEntry.offMask, BitVec.toNat_ushiftRight, BitVec.toNat_or, BitVec.toNat_shiftLeft, BitVec.toNat_setWidth,
    Nat.mod_eq_of_lt (show e.mask.toNat < 2 ^ 32 by omega), hfits, BitVec.toNat_ofNat, Nat.mod_eq_of_lt (by decide),
    hor, Nat.shiftRight_one, h]
  omega

/-- The page-selector bit of the entry (R96). -/
theorem TlbEntry.page_eq (hk : k ≤ 6) (h : e.mask.toNat = 4 ^ k - 1) (va : Dword) :
    e.page va = if va.toNat / (4096 * 4 ^ k) % 2 = 0 then e.lo0 else e.lo1 := by
  obtain ⟨hpos, hle⟩ := four_pow_bounds hk
  have hbit : (e.offMask + 1#32).toNat = 2 ^ (12 + 2 * k) := by
    rw [BitVec.toNat_add, e.offMask_toNat hk h, BitVec.toNat_ofNat, ← page_eq_two_pow]
    omega
  have hsel : lo32 va &&& (e.offMask + 1#32) = 0#32 ↔ va.toNat / (4096 * 4 ^ k) % 2 = 0 := by
    rw [← BitVec.toNat_inj, BitVec.toNat_and, hbit, Nat.and_two_pow, lo32_toNat, Nat.testBit_mod_two_pow,
      Nat.testBit_eq_decide_div_mod_eq, ← page_eq_two_pow]
    simp [show 12 + 2 * k < 32 by omega]
  simp only [TlbEntry.page, hsel]

/-- The offset in the page, kept by the translation (R96). -/
theorem TlbEntry.offset_eq (hk : k ≤ 6) (h : e.mask.toNat = 4 ^ k - 1) (va : Dword) :
    (lo32 va &&& e.offMask).toNat = va.toNat % (4096 * 4 ^ k) := by
  rw [BitVec.toNat_and, e.offMask_toNat hk h, page_eq_two_pow, Nat.and_two_pow_sub_one_eq_mod, lo32_toNat,
    Nat.mod_mod_of_dvd _ (Nat.pow_dvd_pow 2 (by omega))]

/-- What an entry answers for an address that it matches: the failure of its page, or the frame and the offset. -/
theorem TlbEntry.select_eq (hk : k ≤ 6) (h : e.mask.toNat = 4 ^ k - 1) (va : Dword) (kind : Access) :
    e.select va kind =
      let p := if va.toNat / (4096 * 4 ^ k) % 2 = 0 then e.lo0 else e.lo1
      if p.v = false then .error .invalid
      else if kind = .store ∧ p.d = false then .error .modified
      else .ok (BitVec.ofNat 32 (p.pfn.toNat * 4096 + va.toNat % (4096 * 4 ^ k))) := by
  have hpa : ∀ p : TlbPage, p.pfn.setWidth 32 * 0x1000#32 + (lo32 va &&& e.offMask)
      = BitVec.ofNat 32 (p.pfn.toNat * 4096 + va.toNat % (4096 * 4 ^ k)) := by
    intro p
    apply BitVec.eq_of_toNat_eq
    rw [BitVec.toNat_add, BitVec.toNat_mul, e.offset_eq hk h, BitVec.toNat_setWidth, BitVec.toNat_ofNat,
      BitVec.toNat_ofNat]
    omega
  simp only [TlbEntry.select, e.page_eq hk h, hpa, Bool.not_eq_true']

/-- The masked VPN2 of an address is that of the entry when both lie in one page pair (R95). -/
theorem TlbEntry.vpn2_eq_iff (h : e.mask.toNat = 4 ^ k - 1) (va : Dword) :
    va.extractLsb' 13 27 &&& ~~~(e.mask.setWidth 27) = e.vpn2 ↔
      va.toNat % 2 ^ 40 / (2 * (4096 * 4 ^ k)) * (2 * (4096 * 4 ^ k)) = e.vpn2.toNat * 8192 := by
  have hmask : (e.mask.setWidth 27).toNat = 2 ^ (2 * k) - 1 := by
    rw [BitVec.toNat_setWidth, Nat.mod_eq_of_lt (by omega), h, Nat.pow_mul]
  have hvpn : (va.extractLsb' 13 27).toNat = va.toNat % 2 ^ 40 / 8192 := by
    rw [BitVec.extractLsb'_toNat, Nat.shiftRight_eq_div_pow]
    omega
  have hfour : 2 ^ (2 * k) = 4 ^ k := Nat.pow_mul ..
  have hpair : 2 * (4096 * 4 ^ k) = 8192 * 4 ^ k := by omega
  rw [← BitVec.toNat_inj, toNat_and_not_ones _ _ hmask, hvpn, hpair, ← Nat.div_div_eq_div_mul, hfour, Nat.mul_comm 8192,
    ← Nat.mul_assoc]
  exact (Nat.mul_left_inj (by decide)).symm

/-- The region bits of an address are those of the entry (R95). -/
theorem TlbEntry.r_eq_iff (e : TlbEntry) (va : Dword) : va.extractLsb' 62 2 = e.r ↔ va.toNat / 2 ^ 62 = e.r.toNat := by
  have hva := va.isLt
  rw [← BitVec.toNat_inj, BitVec.extractLsb'_toNat, Nat.shiftRight_eq_div_pow, Nat.mod_eq_of_lt (by omega)]

/-- When an entry matches: the page pairs and the regions are the same, and it is global or of the ASID (R95). -/
theorem TlbEntry.hits_iff (h : e.mask.toNat = 4 ^ k - 1) (va : Dword) (asid : BitVec 8) :
    e.hits va asid = true ↔ e.initialized = true
      ∧ va.toNat % 2 ^ 40 / (2 * (4096 * 4 ^ k)) * (2 * (4096 * 4 ^ k)) = e.vpn2.toNat * 8192
      ∧ va.toNat / 2 ^ 62 = e.r.toNat ∧ (e.global = true ∨ e.asid = asid) := by
  simp only [TlbEntry.hits, Bool.and_eq_true, Bool.or_eq_true, beq_iff_eq, e.vpn2_eq_iff h, e.r_eq_iff, and_assoc]

/-! ### The entry that decides (R95, R101) -/

theorem tlbLookup_of_no_hit {tlb : Vector TlbEntry 32} {asid : BitVec 8} {va : Dword} (kind : Access)
    (h : ∀ j : Fin 32, ¬ (tlb[j]).hits va asid = true) : tlbLookup tlb asid va kind = .error .miss := by
  have hnone : tlb.toList.find? (fun e => e.hits va asid) = none := by
    rw [List.find?_eq_none]
    intro e he
    obtain ⟨j, hj, rfl⟩ := List.mem_iff_getElem.1 he
    simpa using h ⟨j, by simpa using hj⟩
  rw [tlbLookup, hnone]

/-- The entry of the lowest index that matches decides. -/
theorem tlbLookup_of_first_hit {tlb : Vector TlbEntry 32} {asid : BitVec 8} {va : Dword} (kind : Access) {i : Fin 32}
    (hi : (tlb[i]).hits va asid = true) (hbefore : ∀ j : Fin 32, j < i → ¬ (tlb[j]).hits va asid = true) :
    tlbLookup tlb asid va kind = (tlb[i]).select va kind := by
  have hfind : tlb.toList.find? (fun e => e.hits va asid) = some tlb[i] := by
    rw [List.find?_eq_some_iff_getElem]
    refine ⟨hi, i.val, by simp, by simp, fun j hj => ?_⟩
    simpa using hbefore ⟨j, by omega⟩ hj
  rw [tlbLookup, hfind]

/-- Settles O27: an entry matches as R95 says, the first that does decides, and it answers by its page. -/
theorem tlbLookupFirstMatch : Obligations.TlbLookupFirstMatch := by
  intro tlb size asid va kind hsize
  have hhits := fun j => TlbEntry.hits_iff (hsize j).2 va asid
  refine ⟨fun hmiss => tlbLookup_of_no_hit kind fun j hj => hmiss j ((hhits j).1 hj), fun i hi hbefore => ?_⟩
  obtain ⟨hk, hmask⟩ := hsize i
  exact (tlbLookup_of_first_hit kind ((hhits i).2 hi) fun j hj hj' => hbefore j hj ((hhits j).1 hj')).trans
    (TlbEntry.select_eq hk hmask va kind)

/-! ### TLBWI, then an access (R377) -/

variable {s : State}

/-- TLBWI, where it may run, writes the entry Index names. -/
theorem exec_tlbwi (hu : s.kernelMode = true ∨ s.cu0 = true) {i : Fin 32} (hi : s.indexField.toNat = i.val) :
    exec .tlbwi s = .next (s.setTlb i s.cp0.tlbEntry) := by
  change s.checkCop0 (s.withTlbIndex s.indexField fun i => .next (s.setTlb i s.cp0.tlbEntry)) = _
  have hlt : s.indexField.toNat < 32 := hi ▸ i.isLt
  have hfin : (⟨s.indexField.toNat, hlt⟩ : Fin 32) = i := Fin.ext hi
  rw [State.checkCop0_of hu, State.withTlbIndex, dif_pos hlt, hfin]

/-- The entry TLBWI writes matches the page pair EntryHi names, under the ASID EntryHi holds. -/
theorem Cp0.tlbEntry_hits (c : Cp0) (hmask : c.pageMask.extractLsb' 13 12 = 0#12) {va : Dword}
    (hvpn2 : va.extractLsb' 13 27 = c.entryHi.extractLsb' 13 27)
    (hr : va.extractLsb' 62 2 = c.entryHi.extractLsb' 62 2) :
    c.tlbEntry.hits va (c.entryHi.extractLsb' 0 8) = true := by
  simp [TlbEntry.hits, Cp0.tlbEntry, hmask, hvpn2, hr]

/-- What the entry TLBWI writes with PageMask 0 answers: a page of 4096 bytes, of the frame and with the flags of the
EntryLo that bit 12 names. -/
theorem Cp0.tlbEntry_select (c : Cp0) (hmask : c.pageMask.extractLsb' 13 12 = 0#12) (va : Dword) (kind : Access) :
    c.tlbEntry.select va kind =
      let lo := if va.getLsbD 12 then c.entryLo1 else c.entryLo0
      if lo.getLsbD 1 = false then .error .invalid
      else if kind = .store ∧ lo.getLsbD 2 = false then .error .modified
      else .ok (BitVec.ofNat 32 (lo.toNat / 64 % 2 ^ 24 * 0x1000 + va.toNat % 4096)) := by
  have hsize : c.tlbEntry.mask.toNat = 4 ^ 0 - 1 := congrArg BitVec.toNat hmask
  have hpfn : ∀ lo : Dword, (lo.extractLsb' 6 24).toNat = lo.toNat / 64 % 2 ^ 24 := fun lo => by
    rw [BitVec.extractLsb'_toNat, Nat.shiftRight_eq_div_pow]
  have hbit : va.toNat / 4096 % 2 = 0 ↔ va.getLsbD 12 = false := by
    rw [← BitVec.testBit_toNat, Nat.testBit_eq_decide_div_mod_eq]
    simp
  rw [TlbEntry.select_eq (Nat.zero_le 6) hsize, Nat.pow_zero, Nat.mul_one]
  simp only [hbit]
  cases va.getLsbD 12 <;> simp [Cp0.tlbEntry, hpfn]

/-- Settles O28: TLBWI puts the entry at index 0, where nothing before it can match, and that entry matches the pair
EntryHi names. -/
theorem tlbwiThenAccess : Obligations.TlbwiThenAccess := by
  intro s hu hindex hmask
  have hzero : s.indexField.toNat = (0 : Fin 32).val := by
    rw [State.indexField, hindex]
    rfl
  refine ⟨s.setTlb 0 s.cp0.tlbEntry, exec_tlbwi hu hzero, s.changesOnly_setTlb 0 _ rfl, ?_⟩
  intro va kind hmapped hvpn2 hr
  have hentry : (s.setTlb 0 s.cp0.tlbEntry).tlb[(0 : Fin 32)] = s.cp0.tlbEntry := by simp
  have hhits : ((s.setTlb 0 s.cp0.tlbEntry).tlb[(0 : Fin 32)]).hits va s.asid = true := by
    rw [hentry]
    exact s.cp0.tlbEntry_hits hmask hvpn2 hr
  have hlookup := tlbLookup_of_first_hit kind hhits fun j hj => absurd hj (Fin.not_lt_zero j)
  rw [hentry, s.cp0.tlbEntry_select hmask] at hlookup
  exact (State.translate_of_mapped kind hmapped).trans hlookup

end Sys2Proof.Machine
end

section
/-!
Proofs/AccessFaults: the address errors and the failed translations of loads, stores and the fetch (20_memory R85, R98;
obligations O29, O30). Every load and every store is one alignment check and one translation, with a width of 1 where
the instruction makes no alignment check.
-/

namespace Sys2Proof.Machine

variable {s : State} {va : Dword} {kind : Access} {f : XlateFail} {i : Instr} {b : Reg} {o : Imm16} {n : Nat}

/-! ### The checks of an access -/

theorem State.aligned_of (h : va.toNat % n = 0) (k : Result) : s.aligned va n kind k = k := if_pos h

/-- The translation of a load without an alignment check, as a load of width 1. -/
theorem State.translated_eq_load (s : State) (va : Dword) (k : Word → Result) :
    s.translated va .load k = s.load va 1 k := (State.aligned_of (Nat.mod_one _) _).symm

/-- The translation of a store without an alignment check, as a store of width 1. -/
theorem State.translated_eq_store (s : State) (va : Dword) (k : Word → Result) :
    s.translated va .store k = s.store va 1 k := (State.aligned_of (Nat.mod_one _) _).symm

/-- The model's exception of a failure is that of the table (20_memory R98). -/
theorem XlateFail.exc_eq_raisedBy (f : XlateFail) (kind : Access) : f.exc kind = raisedBy f kind := by
  cases f <;> cases kind <;> rfl

/-- Only a store finds a page that is not dirty (20_memory R96). -/
theorem TlbEntry.select_ne_modified {e : TlbEntry} (hk : kind ≠ .store) (h : e.select va kind = .error f) :
    f ≠ .modified := by
  rintro rfl
  simp only [TlbEntry.select, hk, false_and, if_false] at h
  split at h <;> cases h

theorem State.translate_ne_modified (hk : kind ≠ .store) (h : s.translate va kind = .error f) : f ≠ .modified := by
  unfold State.translate at h
  split at h
  · cases h
    exact nofun
  · cases h
  · unfold tlbLookup at h
    split at h
    · exact TlbEntry.select_ne_modified hk h
    · cases h
      exact nofun

/-- A translation that fails raises the exception of the table, with the address recorded. -/
theorem State.translated_raises (h : s.translate va kind = .error f) (k : Word → Result) :
    s.translated va kind k = .next ((s.recordFaultAddress va).takeException (raisedBy f kind)) := by
  rw [State.translated_error h, State.raiseAt_eq, XlateFail.exc_eq_raisedBy]

/-! ### The instructions that access memory (43_load_store) -/

/-- A load whose mode and coprocessor checks pass is one aligned and translated read. -/
theorem exec_eq_load (hu : i.usable s) (h : i.loadAccess = some (b, o, n)) :
    ∃ k, exec i s = s.load (s.effectiveAddress b o) n k := by
  obtain ⟨h64, -, hcop1⟩ := hu
  cases i with
  | lb | lbu | lh | lhu | lw | ll =>
    cases h
    exact ⟨_, rfl⟩
  | lwl | lwr =>
    cases h
    exact ⟨_, State.translated_eq_load ..⟩
  | lwu | ld | lld =>
    cases h
    exact ⟨_, State.check64_of (h64 rfl) _⟩
  | ldl | ldr =>
    cases h
    exact ⟨_, (State.check64_of (h64 rfl) _).trans (State.translated_eq_load ..)⟩
  | lwc1 | ldc1 =>
    cases h
    exact ⟨_, State.checkCop1_of (hcop1 (Bool.or_true _)) _⟩
  | _ => cases h

/-- What follows the alignment check of a store: a translation, for SC and SCD when the reservation is held. -/
def translatesWhenHeld (i : Instr) (s : State) (va : Dword) (r : Result) : Prop :=
  (i.conditional = true → s.llbit = true) → ∃ k, r = s.translated va .store k

/-- A store whose mode and coprocessor checks pass is one alignment check and one translated write, which SC and SCD
make only with the reservation held. -/
theorem exec_eq_store (hu : i.usable s) (h : i.storeAccess = some (b, o, n)) :
    ∃ r, exec i s = s.aligned (s.effectiveAddress b o) n .store r
      ∧ translatesWhenHeld i s (s.effectiveAddress b o) r := by
  obtain ⟨h64, -, hcop1⟩ := hu
  cases i with
  | sb | sh | sw =>
    cases h
    exact ⟨_, rfl, fun _ => ⟨_, rfl⟩⟩
  | swl | swr =>
    cases h
    exact ⟨_, State.translated_eq_store .., fun _ => ⟨_, rfl⟩⟩
  | sd =>
    cases h
    exact ⟨_, State.check64_of (h64 rfl) _, fun _ => ⟨_, rfl⟩⟩
  | sdl | sdr =>
    cases h
    exact ⟨_, (State.check64_of (h64 rfl) _).trans (State.translated_eq_store ..), fun _ => ⟨_, rfl⟩⟩
  | swc1 | sdc1 =>
    cases h
    exact ⟨_, State.checkCop1_of (hcop1 (Bool.or_true _)) _, fun _ => ⟨_, rfl⟩⟩
  | sc =>
    cases h
    exact ⟨_, rfl, fun hl => ⟨_, if_pos (hl rfl)⟩⟩
  | scd =>
    cases h
    exact ⟨_, State.check64_of (h64 rfl) _, fun hl => ⟨_, if_pos (hl rfl)⟩⟩
  | _ => cases h

/-- A step without an interrupt is one aligned and translated fetch. -/
theorem step_eq_fetch (hm : s.mode ≠ .undefined) (hi : s.beginStep.interruptCondition = false) :
    ∃ k, step s = s.beginStep.aligned s.pc 4 .fetch (s.beginStep.translated s.pc .fetch k) := by
  unfold step
  rw [if_neg hm, if_neg (by simp [hi])]
  exact ⟨_, rfl⟩

/-! ### The obligations -/

/-- Settles O29: the alignment check comes before the translation in every load, every store and the fetch. -/
theorem misalignedAccessRaises : Obligations.MisalignedAccessRaises := by
  refine ⟨fun i s base imm n hu => ⟨fun hi ha => ?load, fun hi ha => ?store⟩, fun s hm hi ha => ?fetch⟩
  case load =>
    obtain ⟨k, hk⟩ := exec_eq_load hu hi
    exact hk.trans (State.aligned_not ha _)
  case store =>
    obtain ⟨r, hr, -⟩ := exec_eq_store hu hi
    exact hr.trans (State.aligned_not ha _)
  case fetch =>
    obtain ⟨k, hk⟩ := step_eq_fetch hm hi
    exact hk.trans (State.aligned_not ha _)

/-- Settles O30: past the alignment check every access is one translation, and the translation fails by the table. -/
theorem translationFailureRaises : Obligations.TranslationFailureRaises := by
  refine ⟨fun i s base imm n f hu ha => ⟨fun hi hf => ?load, fun hi hl hf => ?store⟩, fun s f hm hi ha hf => ?fetch⟩
  case load =>
    obtain ⟨k, hk⟩ := exec_eq_load hu hi
    exact ⟨State.translate_ne_modified (kind := .load) nofun hf,
      hk.trans ((State.aligned_of ha _).trans (State.translated_raises hf k))⟩
  case store =>
    obtain ⟨r, hr, htranslated⟩ := exec_eq_store hu hi
    obtain ⟨k, rfl⟩ := htranslated hl
    exact hr.trans ((State.aligned_of ha _).trans (State.translated_raises hf k))
  case fetch =>
    obtain ⟨k, hk⟩ := step_eq_fetch hm hi
    exact ⟨State.translate_ne_modified (kind := .fetch) nofun hf,
      hk.trans ((State.aligned_of ha _).trans (State.translated_raises (by simpa using hf) k))⟩

end Sys2Proof.Machine
end

section
/-!
Proofs/Decoder: the decoder and the encoder (30_encoding R147 to R153; obligations O1, O2). Each map of the decoder is
taken by itself. From the encoder's side: the fields of a packed word select the map and the place in it. From the
decoder's side: the fields that selected a place, together with the operands, are the whole word but for the bits its
row ignores.
-/

namespace Sys2Proof

variable {w : Word} {i : Instr}

/-! ### Which map decodes a word (R147) -/

theorem decodeOpcode_special (hop : fOp w = 0x00#6) : decodeOpcode w = decodeSpecial w := by
  rw [decodeOpcode, hop]
  rfl

theorem decodeOpcode_regimm (hop : fOp w = 0x01#6) : decodeOpcode w = decodeRegimm w := by
  rw [decodeOpcode, hop]
  rfl

theorem decodeOpcode_cop0 (hop : fOp w = 0x10#6) : decodeOpcode w = decodeCop0 w := by
  rw [decodeOpcode, hop]
  rfl

theorem decodeOpcode_cop1 (hop : fOp w = 0x11#6) : decodeOpcode w = decodeCop1 w := by
  rw [decodeOpcode, hop]
  rfl

theorem decodeOpcode_bc1 (hop : fOp w = 0x11#6) (hrs : fRs w = 0x08#5) : decodeOpcode w = decodeBc1 w := by
  rw [decodeOpcode_cop1 hop, decodeCop1, hrs]
  rfl

theorem decodeOpcode_fmtS (hop : fOp w = 0x11#6) (hrs : fRs w = 0x10#5) : decodeOpcode w = decodeFmtS w := by
  rw [decodeOpcode_cop1 hop, decodeCop1, hrs]
  rfl

theorem decodeOpcode_fmtD (hop : fOp w = 0x11#6) (hrs : fRs w = 0x11#5) : decodeOpcode w = decodeFmtD w := by
  rw [decodeOpcode_cop1 hop, decodeCop1, hrs]
  rfl

theorem decodeOpcode_fmtW (hop : fOp w = 0x11#6) (hrs : fRs w = 0x14#5) : decodeOpcode w = decodeFmtW w := by
  rw [decodeOpcode_cop1 hop, decodeCop1, hrs]
  rfl

theorem decodeOpcode_fmtL (hop : fOp w = 0x11#6) (hrs : fRs w = 0x15#5) : decodeOpcode w = decodeFmtL w := by
  rw [decodeOpcode_cop1 hop, decodeCop1, hrs]
  rfl

/-! ### Decoding an encoded instruction -/

/-- The opcode maps take the word of every instruction but NOP back to it. One case for each map and format; the last
is the primary opcodes in I-format. -/
theorem decodeOpcode_encode (h : i ≠ .nop) : decodeOpcode (encode i) = .ok i := by
  cases i with
  | nop => exact absurd rfl h
  | add | addu | sub | subu | and | or | xor | nor | slt | sltu | dadd | daddu | dsub | dsubu | sll | srl | sra | sllv
  | srlv | srav | dsll | dsrl | dsra | dsllv | dsrlv | dsrav | dsll32 | dsrl32 | dsra32 | mult | multu | div | divu
  | dmult | dmultu | ddiv | ddivu | mfhi | mthi | mflo | mtlo | jr | jalr | sync =>
    rw [encode, decodeOpcode_special (fOp_packR ..), decodeSpecial, fFunct_packR, fRs_packR, fRt_packR, fRd_packR,
      fSa_packR]
    rfl
  | syscall | break_ =>
    rw [encode, decodeOpcode_special (fOp_packCode20 ..), decodeSpecial, fFunct_packCode20, fCode20_packCode20]
    rfl
  | tge | tgeu | tlt | tltu | teq | tne =>
    rw [encode, decodeOpcode_special (fOp_packCode10 ..), decodeSpecial, fFunct_packCode10, fRs_packCode10,
      fRt_packCode10, fCode10_packCode10]
    rfl
  | bltz | bgez | bltzl | bgezl | bltzal | bgezal | bltzall | bgezall | tgei | tgeiu | tlti | tltiu | teqi | tnei =>
    rw [encode, decodeOpcode_regimm (fOp_packI ..), decodeRegimm, fRs_packI, fRt_packI, fImm_packI]
    rfl
  | j | jal | cop2 =>
    rw [encode, decodeOpcode, fOp_packJ, fIndex_packJ]
    rfl
  | mfc0 | dmfc0 | mtc0 | dmtc0 | tlbr | tlbwi | tlbwr | tlbp | eret =>
    rw [encode, decodeOpcode_cop0 (fOp_packR ..), decodeCop0, decodeCop0Move, decodeCop0Function, fCO_packR,
      fFunct_packR, fRs_packR, fRt_packR, fRd_packR]
    rfl
  | mfc1 | dmfc1 | cfc1 | mtc1 | dmtc1 | ctc1 =>
    rw [encode, decodeOpcode_cop1 (fOp_packR ..), decodeCop1, fRs_packR, fRt_packR, fRd_packR]
    rfl
  | bc1f | bc1t | bc1fl | bc1tl =>
    rw [encode, decodeOpcode_bc1 (fOp_packI ..) (fRs_packI ..), decodeBc1, fRt_packI, fImm_packI]
    rfl
  | addS | subS | mulS | divS | sqrtS | absS | movS | negS | roundLS | truncLS | ceilLS | floorLS | roundWS | truncWS
  | ceilWS | floorWS | cvtDS | cvtWS | cvtLS | cFS | cUnS | cEqS | cUeqS | cOltS | cUltS | cOleS | cUleS | cSfS
  | cNgleS | cSeqS | cNglS | cLtS | cNgeS | cLeS | cNgtS =>
    rw [encode, decodeOpcode_fmtS (fOp_packR ..) (fRs_packR ..), decodeFmtS, fFunct_packR, fRt_packR, fRd_packR,
      fSa_packR]
    rfl
  | addD | subD | mulD | divD | sqrtD | absD | movD | negD | roundLD | truncLD | ceilLD | floorLD | roundWD | truncWD
  | ceilWD | floorWD | cvtSD | cvtWD | cvtLD | cFD | cUnD | cEqD | cUeqD | cOltD | cUltD | cOleD | cUleD | cSfD
  | cNgleD | cSeqD | cNglD | cLtD | cNgeD | cLeD | cNgtD =>
    rw [encode, decodeOpcode_fmtD (fOp_packR ..) (fRs_packR ..), decodeFmtD, fFunct_packR, fRt_packR, fRd_packR,
      fSa_packR]
    rfl
  | cvtSW | cvtDW =>
    rw [encode, decodeOpcode_fmtW (fOp_packR ..) (fRs_packR ..), decodeFmtW, fFunct_packR, fRd_packR, fSa_packR]
    rfl
  | cvtSL | cvtDL =>
    rw [encode, decodeOpcode_fmtL (fOp_packR ..) (fRs_packR ..), decodeFmtL, fFunct_packR, fRd_packR, fSa_packR]
    rfl
  | _ =>
    rw [encode, decodeOpcode, fOp_packI, fRs_packI, fRt_packI, fImm_packI]
    rfl

/-- The word 0, which the decoder takes first (R148), would stand for `sll r0, r0, 0` in the maps. -/
theorem decodeOpcode_zero : decodeOpcode 0#32 = .ok (.sll 0#5 0#5 0#5) := by decide

/-- What the maps answer is the decoder's answer, but for `sll r0, r0, 0`. -/
theorem decode_of_decodeOpcode (h : decodeOpcode w = .ok i) (hi : i ≠ .sll 0#5 0#5 0#5) : decode w = .ok i := by
  refine (if_neg ?_).trans h
  rintro rfl
  exact hi (Except.ok.inj (h.symm.trans decodeOpcode_zero))

/-- Settles O1: the maps take the encoder's word back to the instruction, and only NOP has the word 0. -/
theorem decodeEncodeRoundTrip : Obligations.DecodeEncodeRoundTrip := by
  intro i hwf
  by_cases hnop : i = .nop
  · subst hnop
    rfl
  · refine decode_of_decodeOpcode (decodeOpcode_encode hnop) ?_
    rintro rfl
    exact absurd hwf (by decide)

/-! ### A word from its fields (R141 to R145) -/

theorem packR_fields (w : Word) : packR (fOp w) (fRs w) (fRt w) (fRd w) (fSa w) (fFunct w) = w := by
  unfold packR fOp fRs fRt fRd fSa fFunct
  ext j hj
  simp only [BitVec.getElem_append, BitVec.getElem_extractLsb']
  grind

theorem packI_fields (w : Word) : packI (fOp w) (fRs w) (fRt w) (fImm w) = w := by
  unfold packI fOp fRs fRt fImm
  ext j hj
  simp only [BitVec.getElem_append, BitVec.getElem_extractLsb']
  grind

theorem packJ_fields (w : Word) : packJ (fOp w) (fIndex w) = w := by
  unfold packJ fOp fIndex
  ext j hj
  simp only [BitVec.getElem_append, BitVec.getElem_extractLsb']
  grind

theorem packCode20_fields (hop : fOp w = 0x00#6) : packCode20 (fCode20 w) (fFunct w) = w := by
  rw [packCode20, ← hop]
  unfold fOp fCode20 fFunct
  ext j hj
  simp only [BitVec.getElem_append, BitVec.getElem_extractLsb']
  grind

theorem packCode10_fields (hop : fOp w = 0x00#6) : packCode10 (fRs w) (fRt w) (fCode10 w) (fFunct w) = w := by
  rw [packCode10, ← hop]
  unfold fOp fRs fRt fCode10 fFunct
  ext j hj
  simp only [BitVec.getElem_append, BitVec.getElem_extractLsb']
  grind

/-! ### A word under the masks of spec/opcode_table.json -/

theorem and_packR (w : Word) (op funct : BitVec 6) (rs rt rd sa : BitVec 5) : w &&& packR op rs rt rd sa funct =
    packR (fOp w &&& op) (fRs w &&& rs) (fRt w &&& rt) (fRd w &&& rd) (fSa w &&& sa) (fFunct w &&& funct) := by
  rw [← packR_and, packR_fields]

theorem and_packI (w : Word) (op : BitVec 6) (rs rt : BitVec 5) (imm : BitVec 16) : w &&& packI op rs rt imm =
    packI (fOp w &&& op) (fRs w &&& rs) (fRt w &&& rt) (fImm w &&& imm) := by
  rw [← packI_and, packI_fields]

/-! The masks of the rows: the bits that select a row. -/

theorem and_FC00003F (w : Word) : w &&& 0xFC00003F#32 = packR (fOp w) 0#5 0#5 0#5 0#5 (fFunct w) :=
  (and_packR w (.allOnes 6) (.allOnes 6) 0#5 0#5 0#5 0#5).trans (by simp only [BitVec.and_allOnes, BitVec.and_zero])

theorem and_FFE00000 (w : Word) : w &&& 0xFFE00000#32 = packR (fOp w) (fRs w) 0#5 0#5 0#5 0#6 :=
  (and_packR w (.allOnes 6) 0#6 (.allOnes 5) 0#5 0#5 0#5).trans (by simp only [BitVec.and_allOnes, BitVec.and_zero])

theorem and_FFE0003F (w : Word) : w &&& 0xFFE0003F#32 = packR (fOp w) (fRs w) 0#5 0#5 0#5 (fFunct w) :=
  (and_packR w (.allOnes 6) (.allOnes 6) (.allOnes 5) 0#5 0#5 0#5).trans
    (by simp only [BitVec.and_allOnes, BitVec.and_zero])

theorem and_FC000000 (w : Word) : w &&& 0xFC000000#32 = packI (fOp w) 0#5 0#5 0#16 :=
  (and_packI w (.allOnes 6) 0#5 0#5 0#16).trans (by simp only [BitVec.and_allOnes, BitVec.and_zero])

theorem and_FC1F0000 (w : Word) : w &&& 0xFC1F0000#32 = packI (fOp w) 0#5 (fRt w) 0#16 :=
  (and_packI w (.allOnes 6) 0#5 (.allOnes 5) 0#16).trans (by simp only [BitVec.and_allOnes, BitVec.and_zero])

theorem and_FFFF0000 (w : Word) : w &&& 0xFFFF0000#32 = packI (fOp w) (fRs w) (fRt w) 0#16 :=
  (and_packI w (.allOnes 6) (.allOnes 5) (.allOnes 5) 0#16).trans (by simp only [BitVec.and_allOnes, BitVec.and_zero])

/-- CO is the top bit of the rs field. -/
theorem fRs_and_of_fCO (h : fCO w = 1#1) : fRs w &&& 0x10#5 = 0x10#5 := by
  rw [← packR_fields w, fCO_packR] at h
  exact (by decide : ∀ rs : BitVec 5, rs.extractLsb' 4 1 = 1#1 → rs &&& 0x10#5 = 0x10#5) _ h

theorem and_FE00003F (h : fCO w = 1#1) : w &&& 0xFE00003F#32 = packR (fOp w) 0x10#5 0#5 0#5 0#5 (fFunct w) :=
  (and_packR w (.allOnes 6) (.allOnes 6) 0x10#5 0#5 0#5 0#5).trans
    (by simp only [fRs_and_of_fCO h, BitVec.and_allOnes, BitVec.and_zero])

/-! The bits a row does not ignore: the fields that select it, and the operands. -/

theorem and_not_zero (w : Word) : w &&& ~~~0x00000000#32 = w := BitVec.and_allOnes

theorem and_not_000007C0 (w : Word) :
    w &&& ~~~0x000007C0#32 = packR (fOp w) (fRs w) (fRt w) (fRd w) 0#5 (fFunct w) :=
  (and_packR w (.allOnes 6) (.allOnes 6) (.allOnes 5) (.allOnes 5) (.allOnes 5) 0#5).trans
    (by simp only [BitVec.and_allOnes, BitVec.and_zero])

theorem and_not_03E00000 (w : Word) :
    w &&& ~~~0x03E00000#32 = packR (fOp w) 0#5 (fRt w) (fRd w) (fSa w) (fFunct w) :=
  (and_packR w (.allOnes 6) (.allOnes 6) 0#5 (.allOnes 5) (.allOnes 5) (.allOnes 5)).trans
    (by simp only [BitVec.and_allOnes, BitVec.and_zero])

theorem and_not_0000FFC0 (w : Word) : w &&& ~~~0x0000FFC0#32 = packR (fOp w) (fRs w) (fRt w) 0#5 0#5 (fFunct w) :=
  (and_packR w (.allOnes 6) (.allOnes 6) (.allOnes 5) (.allOnes 5) 0#5 0#5).trans
    (by simp only [BitVec.and_allOnes, BitVec.and_zero])

theorem and_not_03FF07C0 (w : Word) : w &&& ~~~0x03FF07C0#32 = packR (fOp w) 0#5 0#5 (fRd w) 0#5 (fFunct w) :=
  (and_packR w (.allOnes 6) (.allOnes 6) 0#5 0#5 (.allOnes 5) 0#5).trans
    (by simp only [BitVec.and_allOnes, BitVec.and_zero])

theorem and_not_001F07C0 (w : Word) : w &&& ~~~0x001F07C0#32 = packR (fOp w) (fRs w) 0#5 (fRd w) 0#5 (fFunct w) :=
  (and_packR w (.allOnes 6) (.allOnes 6) (.allOnes 5) 0#5 (.allOnes 5) 0#5).trans
    (by simp only [BitVec.and_allOnes, BitVec.and_zero])

theorem and_not_000007FF (w : Word) : w &&& ~~~0x000007FF#32 = packR (fOp w) (fRs w) (fRt w) (fRd w) 0#5 0#6 :=
  (and_packR w (.allOnes 6) 0#6 (.allOnes 5) (.allOnes 5) (.allOnes 5) 0#5).trans
    (by simp only [BitVec.and_allOnes, BitVec.and_zero])

theorem and_not_001F0000 (w : Word) :
    w &&& ~~~0x001F0000#32 = packR (fOp w) (fRs w) 0#5 (fRd w) (fSa w) (fFunct w) :=
  (and_packR w (.allOnes 6) (.allOnes 6) (.allOnes 5) 0#5 (.allOnes 5) (.allOnes 5)).trans
    (by simp only [BitVec.and_allOnes, BitVec.and_zero])

theorem and_not_001FFFC0 (w : Word) : w &&& ~~~0x001FFFC0#32 = packR (fOp w) (fRs w) 0#5 0#5 0#5 (fFunct w) :=
  and_FFE0003F w

theorem and_not_03FFFFC0 (w : Word) : w &&& ~~~0x03FFFFC0#32 = packR (fOp w) 0#5 0#5 0#5 0#5 (fFunct w) :=
  and_FC00003F w

theorem and_not_01FFFFC0 (h : fCO w = 1#1) :
    w &&& ~~~0x01FFFFC0#32 = packR (fOp w) 0x10#5 0#5 0#5 0#5 (fFunct w) :=
  and_FE00003F h

theorem and_not_rs_packI (w : Word) : w &&& ~~~0x03E00000#32 = packI (fOp w) 0#5 (fRt w) (fImm w) :=
  (and_packI w (.allOnes 6) 0#5 (.allOnes 5) (.allOnes 16)).trans (by simp only [BitVec.and_allOnes, BitVec.and_zero])

theorem and_not_rt_packI (w : Word) : w &&& ~~~0x001F0000#32 = packI (fOp w) (fRs w) 0#5 (fImm w) :=
  (and_packI w (.allOnes 6) (.allOnes 5) 0#5 (.allOnes 16)).trans (by simp only [BitVec.and_allOnes, BitVec.and_zero])

/-! ### What a decoded word holds -/

/-- The word belongs to the row of the instruction, and the encoder gives it back up to the bits the row ignores. -/
def Instr.Owns (i : Instr) (w : Word) : Prop := i.row.holds w = true ∧ encode i = w &&& ~~~i.row.ignored

theorem Instr.Owns.of (hrow : w &&& i.row.mask = i.row.bits) (henc : w &&& ~~~i.row.ignored = encode i) : i.Owns w :=
  ⟨beq_iff_eq.2 hrow, henc.symm⟩

theorem decodeSpecial_owns (hop : fOp w = 0x00#6) (h : decodeSpecial w = .ok i) : i.Owns w := by
  have hcode20 := packCode20_fields hop
  have hcode10 := packCode10_fields hop
  unfold decodeSpecial at h
  split at h <;> cases h
  all_goals
    rename_i hfunct
    rw [hfunct] at hcode20 hcode10
    refine .of ((and_FC00003F w).trans (by rw [hop, hfunct]; rfl)) ?_
    simp only [Instr.row, encode, -BitVec.reduceNot, and_not_000007C0, and_not_03E00000, and_not_0000FFC0,
      and_not_03FF07C0, and_not_001F07C0, and_not_001FFFC0, and_not_03FFFFC0, and_not_zero, hop, hfunct, hcode20,
      hcode10]

theorem decodeRegimm_owns (hop : fOp w = 0x01#6) (h : decodeRegimm w = .ok i) : i.Owns w := by
  have hw := packI_fields w
  unfold decodeRegimm at h
  split at h <;> cases h
  all_goals
    rename_i hrt
    rw [hop, hrt] at hw
    refine .of ((and_FC1F0000 w).trans (by rw [hop, hrt]; rfl)) ?_
    simp only [Instr.row, encode, -BitVec.reduceNot, and_not_zero, hw]

theorem decodeCop0Function_owns (hop : fOp w = 0x10#6) (hco : fCO w = 1#1) (h : decodeCop0Function w = .ok i) :
    i.Owns w := by
  unfold decodeCop0Function at h
  split at h <;> cases h
  all_goals
    rename_i hfunct
    refine .of ((and_FE00003F hco).trans (by rw [hop, hfunct]; rfl)) ?_
    simp only [Instr.row, encode, -BitVec.reduceNot, and_not_01FFFFC0 hco, hop, hfunct]

theorem decodeCop0Move_owns (hop : fOp w = 0x10#6) (h : decodeCop0Move w = .ok i) : i.Owns w := by
  unfold decodeCop0Move at h
  split at h <;> cases h
  all_goals
    rename_i hrs
    refine .of ((and_FFE00000 w).trans (by rw [hop, hrs]; rfl)) ?_
    simp only [Instr.row, encode, -BitVec.reduceNot, and_not_000007FF, hop, hrs]

theorem decodeCop0_owns (hop : fOp w = 0x10#6) (h : decodeCop0 w = .ok i) : i.Owns w := by
  unfold decodeCop0 at h
  split at h
  · next hco => exact decodeCop0Function_owns hop hco h
  · exact decodeCop0Move_owns hop h

theorem decodeBc1_owns (hop : fOp w = 0x11#6) (hrs : fRs w = 0x08#5) (h : decodeBc1 w = .ok i) : i.Owns w := by
  have hw := packI_fields w
  unfold decodeBc1 at h
  split at h <;> cases h
  all_goals
    rename_i hrt
    rw [hop, hrs, hrt] at hw
    refine .of ((and_FFFF0000 w).trans (by rw [hop, hrs, hrt]; rfl)) ?_
    simp only [Instr.row, encode, -BitVec.reduceNot, and_not_zero, hw]

/-- The four formats of COP1, whose rows differ in the format and the function code alone. -/
theorem decodeFmt_owns (hop : fOp w = 0x11#6)
    (h : fRs w = 0x10#5 ∧ decodeFmtS w = .ok i ∨ fRs w = 0x11#5 ∧ decodeFmtD w = .ok i
      ∨ fRs w = 0x14#5 ∧ decodeFmtW w = .ok i ∨ fRs w = 0x15#5 ∧ decodeFmtL w = .ok i) : i.Owns w := by
  have hw := packR_fields w
  unfold decodeFmtS decodeFmtD decodeFmtW decodeFmtL at h
  obtain ⟨hrs, h⟩ | ⟨hrs, h⟩ | ⟨hrs, h⟩ | ⟨hrs, h⟩ := h
  all_goals split at h <;> cases h
  all_goals
    rename_i hfunct
    rw [hop, hrs, hfunct] at hw
    refine .of ((and_FFE0003F w).trans (by rw [hop, hrs, hfunct]; rfl)) ?_
    simp only [Instr.row, encode, -BitVec.reduceNot, and_not_zero, and_not_001F0000, and_not_000007C0, hw, hop, hrs,
      hfunct]

theorem decodeCop1_owns (hop : fOp w = 0x11#6) (h : decodeCop1 w = .ok i) : i.Owns w := by
  unfold decodeCop1 at h
  split at h
  case h_7 hrs => exact decodeBc1_owns hop hrs h
  case h_8 hrs => exact decodeFmt_owns hop (.inl ⟨hrs, h⟩)
  case h_9 hrs => exact decodeFmt_owns hop (.inr (.inl ⟨hrs, h⟩))
  case h_10 hrs => exact decodeFmt_owns hop (.inr (.inr (.inl ⟨hrs, h⟩)))
  case h_11 hrs => exact decodeFmt_owns hop (.inr (.inr (.inr ⟨hrs, h⟩)))
  all_goals cases h
  all_goals
    rename_i hrs
    refine .of ((and_FFE00000 w).trans (by rw [hop, hrs]; rfl)) ?_
    simp only [Instr.row, encode, -BitVec.reduceNot, and_not_000007FF, hop, hrs]

theorem decodeOpcode_owns (h : decodeOpcode w = .ok i) : i.Owns w := by
  have hI := packI_fields w
  have hJ := packJ_fields w
  unfold decodeOpcode at h
  split at h
  case h_1 hop => exact decodeSpecial_owns hop h
  case h_2 hop => exact decodeRegimm_owns hop h
  case h_17 hop => exact decodeCop0_owns hop h
  case h_18 hop => exact decodeCop1_owns hop h
  all_goals cases h
  all_goals
    rename_i hop
    rw [hop] at hI hJ
    refine .of ((and_FC000000 w).trans (by rw [hop]; rfl)) ?_
    simp only [Instr.row, encode, -BitVec.reduceNot, and_not_zero, and_not_rs_packI, and_not_rt_packI, hI, hJ, hop]

theorem nop_owns_zero : Instr.nop.Owns 0#32 := ⟨by decide, by decide⟩

/-- Settles O2: NOP for the word 0, else map by map. -/
theorem decodedWordIsItsRow : Obligations.DecodedWordIsItsRow := by
  intro w i h
  unfold decode at h
  split at h
  · next hzero =>
    cases h
    exact hzero ▸ nop_owns_zero
  · exact decodeOpcode_owns h

end Sys2Proof
end

section
/-!
Proofs/Checks: a word that no row takes, and the checks a handler makes before anything else (30_encoding R155, R160,
R161; obligations O3, O23). Each instruction that makes a check is that check of some continuation.
-/

namespace Sys2Proof.Machine

variable {s : State} {pa : Word} {i : Instr}

/-! ### A word that no row takes (R155) -/

/-- Only a word that belongs to the row of an instruction decodes. -/
theorem decode_error_of_no_row {w : Word} (h : ∀ i : Instr, i.row.holds w = false) : ∃ e, decode w = .error e := by
  cases hd : decode w with
  | error e => exact ⟨e, rfl⟩
  | ok i =>
    obtain ⟨hholds, -⟩ := decodedWordIsItsRow w i hd
    exact absurd hholds (by simp [h i])

/-- A step whose fetch reaches the bus and whose word does not decode takes RI. -/
theorem step_of_decode_error {e : DecodeError} (hm : s.mode ≠ .undefined)
    (hi : s.beginStep.interruptCondition = false) (hr : s.reaches s.pc 4 .fetch pa)
    (hd : decode (s.beginStep.bus32 pa) = .error e) :
    step s = .next ((s.beginStep.afterRead pa 4).takeException .ri) := by
  obtain ⟨halign, htranslate⟩ := hr
  unfold step State.fetchDecode State.fetch
  rw [if_neg hm, hi, if_neg Bool.false_ne_true, State.beginStep_prevPc, State.aligned_of halign,
    State.translated_ok (by simpa using htranslate)]
  simp only [hd, State.raise_eq]

/-- Settles O3: the word on the bus belongs to no row, so that the decoder rejects it. -/
theorem unallocatedWordRaisesRI : Obligations.UnallocatedWordRaisesRI := by
  intro s pa hm hi hr hrows
  obtain ⟨e, hdecode⟩ := decode_error_of_no_row hrows
  rw [← State.bus32_eq_busNumber (State.reaches_aligned hr (by decide))] at hdecode
  exact step_of_decode_error hm hi hr hdecode

/-! ### Who makes which check (R160, R161) -/

theorem exec_eq_checkCop0 (s : State) (h : i.needsCop0 = true) : ∃ k, exec i s = s.checkCop0 k := by
  cases i with
  | mfc0 | dmfc0 | mtc0 | dmtc0 | tlbr | tlbwi | tlbwr | tlbp | eret => exact ⟨_, rfl⟩
  | _ => cases h

/-- The words of COP1 and the FP loads and stores: every other instruction has another primary opcode. -/
theorem exec_eq_checkCop1 (s : State) (h : i.needsCop1 = true) : ∃ k, exec i s = s.checkCop1 k := by
  cases i with
  | lwc1 | ldc1 | swc1 | sdc1 | mfc1 | dmfc1 | cfc1 | mtc1 | dmtc1 | ctc1 | bc1f | bc1t | bc1fl | bc1tl
  | addS | subS | mulS | divS | sqrtS | absS | movS | negS | roundLS | truncLS | ceilLS | floorLS | roundWS | truncWS
  | ceilWS | floorWS | cvtDS | cvtWS | cvtLS | cFS | cUnS | cEqS | cUeqS | cOltS | cUltS | cOleS | cUleS | cSfS
  | cNgleS | cSeqS | cNglS | cLtS | cNgeS | cLeS | cNgtS
  | addD | subD | mulD | divD | sqrtD | absD | movD | negD | roundLD | truncLD | ceilLD | floorLD | roundWD | truncWD
  | ceilWD | floorWD | cvtSD | cvtWD | cvtLD | cFD | cUnD | cEqD | cUeqD | cOltD | cUltD | cOleD | cUleD | cSfD
  | cNgleD | cSeqD | cNglD | cLtD | cNgeD | cLeD | cNgtD
  | cvtSW | cvtDW | cvtSL | cvtDL => exact ⟨_, rfl⟩
  | nop => cases h
  | _ => simp [Instr.needsCop1, encode] at h

/-- `Check64()` comes after the coprocessor check of the instructions that make both. -/
theorem exec_eq_check64 (h : i.needs64 = true) (h0 : i.needsCop0 = true → s.kernelMode = true ∨ s.cu0 = true)
    (h1 : i.needsCop1 = true → s.cu1 = true) : ∃ k, exec i s = s.check64 k := by
  cases i with
  | dmfc0 | dmtc0 => exact ⟨_, State.checkCop0_of (h0 rfl) _⟩
  | dmfc1 | dmtc1 => exact ⟨_, State.checkCop1_of (h1 (by simp [Instr.needsCop1, encode])) _⟩
  | dadd | daddu | dsub | dsubu | daddi | daddiu | dsll | dsrl | dsra | dsllv | dsrlv | dsrav | dsll32 | dsrl32
  | dsra32 | dmult | dmultu | ddiv | ddivu | ld | sd | ldl | ldr | sdl | sdr | lld | scd | lwu => exact ⟨_, rfl⟩
  | _ => cases h

/-! ### LDC1 and SDC1, which do not make `Check64()` (R160) -/

/-- An aligned doubleword on the bus, as a number (20_memory R82). -/
theorem State.bus64_eq_busNumber (h : pa.toNat % 8 = 0) : s.bus64 pa = BitVec.ofNat 64 (s.busNumber pa 8) := by
  apply eq_ofNat_of_toNat
  cases hmem : s.isMemory pa with
  | true => rw [State.bus64_of_memory hmem, Memory.read64_toNat _ h, State.busNumber, if_pos hmem]
  | false => rw [State.bus64_toNat_outside hmem, State.busNumber, if_neg (by simp [hmem])]

/-- The 64-bit view of an FPR reads what was last written through it (46_fpu_move R401). -/
theorem State.fgr64_setFgr64 (s : State) (f : FReg) (v : Dword) : (s.setFgr64 f v).fgr64 f = v :=
  State.fpr_setFpr_same s (s.fprCell f) v

/-- One bus write whose memory `m` differs from the old one in the written bytes alone (20_memory R86). -/
theorem State.busWrite_stored {n v : Nat} {m : Memory}
    (hbytes : ∀ k, k < n → m.read (pa.toNat + k) = BitVec.ofNat 8 (v / 256 ^ (n - 1 - k)))
    (hothers : ∀ a, ¬ bytesAt pa n (.byte a) → m.read a = s.mem.read a) :
    s.changesOnly (s.busWrite pa n (BitVec.ofNat 64 (v % 256 ^ n)) m) (s.storeWrites pa n)
      ∧ s.stored (s.busWrite pa n (BitVec.ofNat 64 (v % 256 ^ n)) m) pa n v := by
  refine ⟨s.changesOnly_busWrite pa n _ m (fun hram a ha => hothers a ?ram) fun hdev => ?device, ?stored⟩
  case ram => simpa only [State.storeWrites, hram] using ha
  case device => simp only [State.storeWrites, hdev]
  case stored =>
    unfold State.stored
    split
    · next hram =>
      intro k hk
      rw [State.busWrite_of_ram hram, State.setMem_mem, hbytes k hk, Nat.pow_mul]
    · trivial
    · next hdev => rw [State.busWrite_of_device hdev, State.traced_busTrace]
    · trivial

/-- The bus write of a doubleword (20_memory R82, R86). -/
theorem State.busWrite64_stored (hwf : s.mem.wf = true) (hpa : pa.toNat % 8 = 0) (v : Dword) :
    s.changesOnly (s.busWrite64 pa v) (s.storeWrites pa 8) ∧ s.stored (s.busWrite64 pa v) pa 8 v.toNat := by
  have hv : BitVec.ofNat 64 (v.toNat % 256 ^ 8) = v := by
    rw [Nat.mod_eq_of_lt (show v.toNat < 256 ^ 8 from v.isLt), BitVec.ofNat_toNat, BitVec.setWidth_eq]
  have h := State.busWrite_stored (fun k hk => Memory.read_write64_byte hwf hpa v hk)
    (fun a ha => Memory.read_write64_outside hwf pa v hpa ha)
  rwa [hv] at h

theorem ldc1_loads {ft : FReg} {b : Reg} {o : Imm16} (hcu1 : s.cu1 = true)
    (hr : s.reaches (s.effectiveAddress b o) 8 .load pa) :
    loads (.ldc1 ft b o) s (· = .fpr (s.fprCell ft)) pa 8 fun t => t.fgr64 ft = BitVec.ofNat 64 (s.busNumber pa 8) := by
  have hexec : exec (.ldc1 ft b o) s = .next ((s.afterRead pa 8).setFgr64 ft (s.bus64 pa)) :=
    (State.checkCop1_of hcu1 _).trans (State.load_of hr _)
  have hcell : (s.afterRead pa 8).fprCell ft = s.fprCell ft := by simp [State.fprCell, State.fr]
  refine ⟨_, hexec, ?frame, State.afterRead_busTrace (by decide), ?value⟩
  case frame =>
    exact State.changesOnly_trans (State.changesOnly_afterRead s pa 8 fun _ => .inr rfl)
      (State.changesOnly_setFpr _ _ _ (.inl (by rw [hcell])))
  case value =>
    exact (State.fgr64_setFgr64 ..).trans (State.bus64_eq_busNumber (State.reaches_aligned hr (by decide)))

theorem sdc1_stores {ft : FReg} {b : Reg} {o : Imm16} (hcu1 : s.cu1 = true) (hwf : s.mem.wf = true)
    (hr : s.reaches (s.effectiveAddress b o) 8 .store pa) :
    storesBytes (.sdc1 ft b o) s pa 8 (s.fgr64 ft).toNat :=
  ⟨_, (State.checkCop1_of hcu1 _).trans (State.store_of hr _),
    State.busWrite64_stored hwf (State.reaches_aligned hr (by decide)) _⟩

/-- Settles O23: each check by the instructions that make it; LDC1 and SDC1 make `CheckCop1()` alone. -/
theorem checksBeforeExecution : Obligations.ChecksBeforeExecution := by
  refine fun i s => ⟨fun h hk h0 => ?cop0, fun h h1 => ?cop1, ?cop2, ?refused, fun h h64 h0 h1 => ?check64,
    fun hk => ?kernel, fun ft b o pa h1 _ => ⟨ldc1_loads h1, sdc1_stores h1⟩⟩
  case cop0 =>
    obtain ⟨k, hexec⟩ := exec_eq_checkCop0 s h
    exact hexec.trans (State.checkCop0_not hk h0 k)
  case cop1 =>
    obtain ⟨k, hexec⟩ := exec_eq_checkCop1 s h
    exact hexec.trans (State.checkCop1_not h1 k)
  case cop2 =>
    rintro code rfl h2
    exact State.checkCop2_not h2 _
  case refused =>
    rintro code rfl h2
    exact State.checkCop2_of h2 _
  case check64 =>
    obtain ⟨k, hexec⟩ := exec_eq_check64 h h0 h1
    exact hexec.trans (State.check64_not h64 k)
  case kernel =>
    obtain ⟨-, h64⟩ := State.flags_of_kernel (beq_iff_eq.1 hk)
    exact h64

end Sys2Proof.Machine
end

section
/-!
Proofs/IntegerAlu: the operand forms, logic, comparisons and shifts (30_encoding R146, 40_integer_alu, 42_branch_jump
R252, 43_load_store R290; obligations O31, O34, O35). What the bit-vector operations are on numbers comes first; each
instruction is then one register write.
-/

namespace Sys2Proof.Machine

variable {s : State} {i : Instr} {r : Reg} {u v : Dword}

/-! ### Sign extension and the low word, as numbers (00_scope R5, R7) -/

theorem sext64_toInt {n : Nat} (hn : n ≤ 64) (v : BitVec n) : (sext64 v).toInt = v.toInt :=
  BitVec.toInt_signExtend_of_le hn

theorem sext64_eq_ofInt {n : Nat} (hn : n ≤ 64) (v : BitVec n) : sext64 v = BitVec.ofInt 64 v.toInt := by
  rw [← sext64_toInt hn, BitVec.ofInt_toInt]

theorem sext64_ofInt (z : Int) : sext64 (BitVec.ofInt 32 z) = word32 z := by
  rw [sext64_eq_ofInt (by decide), BitVec.toInt_ofInt, word32]

/-- The low word of a number does not depend on the bits above it. -/
theorem lo32_ofInt (z : Int) : lo32 (BitVec.ofInt 64 z) = BitVec.ofInt 32 z := by
  apply BitVec.eq_of_toInt_eq
  rw [lo32, BitVec.toInt_extractLsb', Nat.shiftRight_zero, BitVec.toInt_ofInt,
    ← Int.bmod_bmod_of_dvd (m := 2 ^ 64) (by decide), ← BitVec.toInt_eq_toNat_bmod, BitVec.toInt_ofInt,
    Int.bmod_bmod_of_dvd (by decide)]

theorem lo32_eq_ofInt (v : Dword) : lo32 v = BitVec.ofInt 32 v.toInt := by rw [← lo32_ofInt, BitVec.ofInt_toInt]

/-! ### The operand forms (30_encoding R146) -/

theorem State.effectiveAddress_eq (s : State) (b : Reg) (o : Imm16) :
    s.effectiveAddress b o = BitVec.ofInt 64 ((s.x b).toInt + o.toInt) := by
  rw [State.effectiveAddress, sext64_eq_ofInt (by decide), BitVec.ofInt_add, BitVec.ofInt_toInt]

theorem State.branchTarget_eq (s : State) (o : Imm16) : s.branchTarget o = branchTo s.prevPc o := by
  rw [State.branchTarget, branchTo, sext64_eq_ofInt (by decide), BitVec.toInt_append_zero, BitVec.ofInt_add,
    BitVec.ofInt_add, BitVec.ofInt_toInt]
  rfl

theorem State.jumpTarget_eq (s : State) (idx : BitVec 26) : s.jumpTarget idx = jumpTo s.prevPc idx := by
  apply BitVec.eq_of_toNat_eq
  simp only [State.jumpTarget, jumpTo, toNat_append_eq, BitVec.extractLsb'_toNat, BitVec.toNat_ofNat,
    Nat.shiftRight_eq_div_pow]
  omega

theorem State.shift5_eq (s : State) (r : Reg) : s.shift5 r = (s.x r).toNat % 32 := by
  rw [State.shift5, BitVec.extractLsb'_toNat, Nat.shiftRight_zero]

theorem State.shift6_eq (s : State) (r : Reg) : s.shift6 r = (s.x r).toNat % 64 := by
  rw [State.shift6, BitVec.extractLsb'_toNat, Nat.shiftRight_zero]

/-- Settles O31. -/
theorem operandForms : Obligations.OperandForms := fun s r imm idx =>
  ⟨s.effectiveAddress_eq r imm, s.branchTarget_eq imm, s.jumpTarget_eq idx, rfl, s.shift5_eq r, s.shift6_eq r⟩

/-! ### The instructions that write one general register -/

theorem writesGpr_of_exec (h : exec i s = .next (s.setX r u)) (huv : u = v) : writesGpr i s r v :=
  huv ▸ ⟨_, h, State.changesOnly_setX s r u rfl, State.x_setX_same s r u⟩

theorem writesGpr_of_check64 (h64 : s.ops64 = true) (h : exec i s = s.check64 (.next (s.setX r u))) (huv : u = v) :
    writesGpr i s r v :=
  writesGpr_of_exec (h.trans (State.check64_of h64 _)) huv

/-! ### Logic and comparison (40_integer_alu R174 to R190) -/

/-- The logical immediate, bit by bit. -/
theorem logicImm_getLsbD (imm : Imm16) {k : Nat} (hk : k < 64) :
    (logicImm imm).getLsbD k = (decide (k < 16) && imm.getLsbD k) := by
  rw [logicImm, zext64, BitVec.getLsbD_setWidth, decide_eq_true hk, Bool.true_and]
  by_cases h : k < 16
  · rw [decide_eq_true h, Bool.true_and]
  · rw [decide_eq_false h, Bool.false_and, BitVec.getLsbD_of_ge imm k (by omega)]

theorem truth_decide (p : Prop) [Decidable p] : truth (decide p) = if p then 1#64 else 0#64 := by
  by_cases h : p
  · rw [decide_eq_true h, if_pos h]
    rfl
  · rw [decide_eq_false h, if_neg h]
    rfl

theorem truth_slt (x y : Dword) : truth (x.slt y) = if x.toInt < y.toInt then 1#64 else 0#64 := by
  rw [BitVec.slt_eq_decide, truth_decide]

theorem truth_ult (x y : Dword) : truth (x.ult y) = if x.toNat < y.toNat then 1#64 else 0#64 := by
  rw [BitVec.ult_eq_decide, truth_decide]

/-- Settles O34: the bit-vector operations bit by bit, the comparisons as comparisons of numbers. -/
theorem logicAndComparison : Obligations.LogicAndComparison := by
  intro s rd rs rt imm
  refine ⟨⟨_, writesGpr_of_exec rfl rfl, fun k _ => BitVec.getLsbD_and⟩,
    ⟨_, writesGpr_of_exec rfl rfl, fun k _ => BitVec.getLsbD_or⟩, ⟨_, writesGpr_of_exec rfl rfl, fun k _ => ?xor⟩,
    ⟨_, writesGpr_of_exec rfl rfl, fun k hk => ?nor⟩, ⟨_, writesGpr_of_exec rfl rfl, fun k hk => ?andi⟩,
    ⟨_, writesGpr_of_exec rfl rfl, fun k hk => ?ori⟩, ⟨_, writesGpr_of_exec rfl rfl, fun k hk => ?xori⟩,
    writesGpr_of_exec rfl (truth_slt ..), writesGpr_of_exec rfl (truth_ult ..), writesGpr_of_exec rfl ?slti,
    writesGpr_of_exec rfl ?sltiu⟩
  case xor => rw [BitVec.getLsbD_xor, Bool.bne_eq_xor]
  case nor => rw [BitVec.getLsbD_not, BitVec.getLsbD_or, decide_eq_true hk, Bool.true_and]
  case andi => rw [BitVec.getLsbD_and, logicImm_getLsbD imm hk]
  case ori => rw [BitVec.getLsbD_or, logicImm_getLsbD imm hk]
  case xori => rw [BitVec.getLsbD_xor, logicImm_getLsbD imm hk, Bool.bne_eq_xor]
  case slti => rw [truth_slt, arithImm, sext64_toInt (by decide)]
  case sltiu => rw [truth_ult, arithImm, sext64_eq_ofInt (by decide)]

/-! ### Shifts (40_integer_alu R194 to R208) -/

theorem twoPow_eq_ofInt (n k : Nat) : BitVec.twoPow n k = BitVec.ofInt n (2 ^ k) := by
  have hcast : (2 : ℤ) ^ k = ((2 ^ k : ℕ) : ℤ) := by rw [Nat.cast_pow, Nat.cast_ofNat]
  rw [hcast, BitVec.ofInt_natCast]
  exact BitVec.eq_of_toNat_eq (by rw [BitVec.toNat_twoPow, BitVec.toNat_ofNat])

theorem sext64_lo32_shiftLeft (v : Dword) (k : Nat) : sext64 (lo32 v <<< k) = word32 (v.toInt * 2 ^ k) := by
  rw [BitVec.shiftLeft_eq_mul_twoPow, twoPow_eq_ofInt, lo32_eq_ofInt, ← BitVec.ofInt_mul, sext64_ofInt]

theorem sext64_lo32_ushiftRight (v : Dword) (k : Nat) :
    sext64 (lo32 v >>> k) = word32 ((v.toNat % 2 ^ 32 / 2 ^ k : ℕ) : ℤ) := by
  rw [← sext64_ofInt, BitVec.ofInt_natCast]
  congr 1
  apply eq_ofNat_of_toNat
  rw [BitVec.toNat_ushiftRight, Nat.shiftRight_eq_div_pow, lo32_toNat]

theorem sshiftRight_eq_ofInt (v : Dword) (k : Nat) : v.sshiftRight k = BitVec.ofInt 64 (v.toInt / 2 ^ k) := by
  rw [BitVec.sshiftRight_eq, Int.shiftRight_eq_div_pow, Nat.cast_pow, Nat.cast_ofNat]

theorem sext64_lo32_sshiftRight (v : Dword) (k : Nat) :
    sext64 (lo32 (v.sshiftRight k)) = word32 (v.toInt / 2 ^ k) := by
  rw [sshiftRight_eq_ofInt, lo32_ofInt, sext64_ofInt]

theorem shiftLeft_eq_ofNat (v : Dword) (k : Nat) : v <<< k = BitVec.ofNat 64 (v.toNat * 2 ^ k) := by
  apply BitVec.eq_of_toNat_eq
  rw [BitVec.toNat_shiftLeft, Nat.shiftLeft_eq, BitVec.toNat_ofNat]

theorem ushiftRight_eq_ofNat (v : Dword) (k : Nat) : v >>> k = BitVec.ofNat 64 (v.toNat / 2 ^ k) := by
  apply eq_ofNat_of_toNat
  rw [BitVec.toNat_ushiftRight, Nat.shiftRight_eq_div_pow]

/-- Settles O35: the 32-bit forms write a sign-extended word; the D forms, past `Check64()`, a doubleword. -/
theorem shifts : Obligations.Shifts := by
  intro s rd rt rs sa u z n v5 v6 left right arith
  have h5 : s.shift5 rs = v5 := s.shift5_eq rs
  have h6 : s.shift6 rs = v6 := s.shift6_eq rs
  refine ⟨writesGpr_of_exec rfl (sext64_lo32_shiftLeft ..), writesGpr_of_exec rfl (sext64_lo32_ushiftRight ..),
    writesGpr_of_exec rfl (sext64_lo32_sshiftRight ..), writesGpr_of_exec rfl (h5 ▸ sext64_lo32_shiftLeft ..),
    writesGpr_of_exec rfl (h5 ▸ sext64_lo32_ushiftRight ..), writesGpr_of_exec rfl (h5 ▸ sext64_lo32_sshiftRight ..),
    fun h64 => ?_⟩
  exact ⟨writesGpr_of_check64 h64 rfl (shiftLeft_eq_ofNat ..), writesGpr_of_check64 h64 rfl (ushiftRight_eq_ofNat ..),
    writesGpr_of_check64 h64 rfl (sshiftRight_eq_ofInt ..), writesGpr_of_check64 h64 rfl (h6 ▸ shiftLeft_eq_ofNat ..),
    writesGpr_of_check64 h64 rfl (h6 ▸ ushiftRight_eq_ofNat ..),
    writesGpr_of_check64 h64 rfl (h6 ▸ sshiftRight_eq_ofInt ..), writesGpr_of_check64 h64 rfl (shiftLeft_eq_ofNat ..),
    writesGpr_of_check64 h64 rfl (ushiftRight_eq_ofNat ..), writesGpr_of_check64 h64 rfl (sshiftRight_eq_ofInt ..)⟩

end Sys2Proof.Machine
end

section
/-!
Proofs/Arithmetic: addition and subtraction, checked and unchecked (40_integer_alu R170 to R173, R180 to R185, R191 to
R193, R210; obligations O32, O33). The sums and differences of bit vectors are those of signed numbers, cut to the
width, and the overflow tests of the model say when nothing is cut.
-/

namespace Sys2Proof.Machine

variable {s : State} {i : Instr} {r : Reg} {u : Dword} {n : Nat} {z : Int}

/-! ### Operands as signed numbers (00_scope R5, 30_encoding R146) -/

theorem low32_eq_toInt (v : Dword) : low32 v = (lo32 v).toInt := by
  rw [lo32_eq_ofInt, BitVec.toInt_ofInt, low32]

theorem signExtend32_toInt (imm : Imm16) : (imm.signExtend 32).toInt = imm.toInt :=
  BitVec.toInt_signExtend_of_le (by decide)

theorem arithImm_toInt (imm : Imm16) : (arithImm imm).toInt = imm.toInt := sext64_toInt (by decide) imm

theorem upperImm_eq_ofInt (imm : Imm16) : upperImm imm = BitVec.ofInt 64 (imm.toInt * 2 ^ 16) := by
  rw [upperImm, sext64_eq_ofInt (by decide), BitVec.toInt_append_zero, Int.mul_comm]

/-! ### Sums and differences that wrap (R171, R173, R181, R183) -/

theorem ofInt_sub (y z : Int) : BitVec.ofInt n (y - z) = BitVec.ofInt n y - BitVec.ofInt n z := by
  rw [Int.sub_eq_add_neg, BitVec.ofInt_add, BitVec.ofInt_neg, BitVec.sub_eq_add_neg]

theorem add_eq_ofInt (x y : BitVec n) : x + y = BitVec.ofInt n (x.toInt + y.toInt) := by
  rw [BitVec.ofInt_add, BitVec.ofInt_toInt, BitVec.ofInt_toInt]

theorem sub_eq_ofInt (x y : BitVec n) : x - y = BitVec.ofInt n (x.toInt - y.toInt) := by
  rw [ofInt_sub, BitVec.ofInt_toInt, BitVec.ofInt_toInt]

/-- A 32-bit sum is the low word of the sum of the whole registers. -/
theorem sext64_lo32_add (x : Dword) {y : Word} (hy : y = BitVec.ofInt 32 z) :
    sext64 (lo32 x + y) = word32 (x.toInt + z) := by
  rw [hy, lo32_eq_ofInt, ← BitVec.ofInt_add, sext64_ofInt]

theorem sext64_lo32_sub (x y : Dword) : sext64 (lo32 x - lo32 y) = word32 (x.toInt - y.toInt) := by
  rw [lo32_eq_ofInt, lo32_eq_ofInt, ← ofInt_sub, sext64_ofInt]

theorem add_arithImm_eq_ofInt (x : Dword) (imm : Imm16) : x + arithImm imm = BitVec.ofInt 64 (x.toInt + imm.toInt) := by
  rw [add_eq_ofInt, arithImm_toInt]

/-- Settles O33: each instruction is one register write, past `Check64()` in the D forms. -/
theorem uncheckedArithmetic : Obligations.UncheckedArithmetic := by
  intro s rd rs rt imm
  refine ⟨writesGpr_of_exec rfl (sext64_lo32_add _ (lo32_eq_ofInt _)), writesGpr_of_exec rfl (sext64_lo32_sub ..),
    writesGpr_of_exec rfl (sext64_lo32_add _ rfl), writesGpr_of_exec rfl (upperImm_eq_ofInt imm), fun h64 => ?_⟩
  exact ⟨writesGpr_of_check64 h64 rfl (add_eq_ofInt ..), writesGpr_of_check64 h64 rfl (sub_eq_ofInt ..),
    writesGpr_of_check64 h64 rfl (add_arithImm_eq_ofInt ..)⟩

/-! ### The overflow tests (R210) -/

/-- `z` is not a signed number of `n` bits. -/
def OutOfRange (n : Nat) (z : Int) : Prop := z < -2 ^ (n - 1) ∨ 2 ^ (n - 1) ≤ z

theorem addOverflows_iff (a b : BitVec n) : addOverflows a b = true ↔ OutOfRange n (a.toInt + b.toInt) := by
  have h : addOverflows a b = a.saddOverflow b := (BitVec.saddOverflow_eq a b).symm
  rw [h, BitVec.saddOverflow, Bool.or_eq_true, decide_eq_true_iff, decide_eq_true_iff, OutOfRange, or_comm]

theorem subOverflows_iff (a b : BitVec n) : subOverflows a b = true ↔ OutOfRange n (a.toInt - b.toInt) := by
  have h : subOverflows a b = a.ssubOverflow b := by
    rw [BitVec.ssubOverflow_eq, subOverflows]
    cases a.msb <;> cases b.msb <;> cases (a - b).msb <;> rfl
  rw [h, BitVec.ssubOverflow, Bool.or_eq_true, decide_eq_true_iff, decide_eq_true_iff, OutOfRange, or_comm]

/-! ### The checked instructions (R170, R172, R180, R182, R184, R192) -/

theorem State.checked_fits {overflow : Bool} (h : ¬ overflow = true) : s.checked overflow r u = .next (s.setX r u) :=
  if_neg h

theorem State.checked_overflows {overflow : Bool} (h : overflow = true) :
    s.checked overflow r u = .next (s.takeException .ov) := if_pos h

/-- The instruction writes the signed number `z` of `n` bits, or takes Ov when it is none. -/
def WritesInRange (n : Nat) (i : Instr) (s : State) (r : Reg) (z : Int) : Prop :=
  (-2 ^ (n - 1) ≤ z ∧ z < 2 ^ (n - 1) → writesGpr i s r (BitVec.ofInt 64 z)) ∧ (OutOfRange n z → raises i s .ov)

/-- A checked operation whose result `v` is `z` cut to `n` bits, and whose test says when `z` has more: what it writes
is `z` itself. -/
theorem writesInRange_of_exec {overflow : Bool} {v : BitVec n} (h0 : 0 < n) (hn : n ≤ 64)
    (hv : v = BitVec.ofInt n z) (ho : overflow = true ↔ OutOfRange n z)
    (h : exec i s = s.checked overflow r (sext64 v)) :
    WritesInRange n i s r z := by
  constructor
  · rintro ⟨hlo, hhi⟩
    have hin : ¬ overflow = true := fun h => (ho.1 h).elim hlo.not_gt hhi.not_ge
    have hz : v.toInt = z := hv ▸ BitVec.toInt_ofInt_eq_self h0 hlo hhi
    exact writesGpr_of_exec (h.trans (State.checked_fits hin)) (by rw [sext64_eq_ofInt hn, hz])
  · exact fun hz => h.trans (State.checked_overflows (ho.2 hz))

theorem writesInRange_add {a b : BitVec n} (h0 : 0 < n) (hn : n ≤ 64)
    (h : exec i s = s.checked (addOverflows a b) r (sext64 (a + b))) : WritesInRange n i s r (a.toInt + b.toInt) :=
  writesInRange_of_exec h0 hn (add_eq_ofInt a b) (addOverflows_iff a b) h

theorem writesInRange_sub {a b : BitVec n} (h0 : 0 < n) (hn : n ≤ 64)
    (h : exec i s = s.checked (subOverflows a b) r (sext64 (a - b))) : WritesInRange n i s r (a.toInt - b.toInt) :=
  writesInRange_of_exec h0 hn (sub_eq_ofInt a b) (subOverflows_iff a b) h

/-- A doubleword result is written as it is. -/
theorem exec_checked64 {overflow : Bool} (h64 : s.ops64 = true) (h : exec i s = s.check64 (s.checked overflow r u)) :
    exec i s = s.checked overflow r (sext64 u) := by
  rw [h, State.check64_of h64, sext64, BitVec.signExtend_eq]

/-- Settles O32: the 32-bit forms work on the low words, the D forms, past `Check64()`, on the whole registers. -/
theorem checkedArithmetic : Obligations.CheckedArithmetic := by
  intro s rd rs rt imm checked
  rw [low32_eq_toInt, low32_eq_toInt, ← signExtend32_toInt imm]
  refine ⟨writesInRange_add (by decide) (by decide) rfl, writesInRange_sub (by decide) (by decide) rfl,
    writesInRange_add (by decide) (by decide) rfl, fun h64 => ?_⟩
  rw [signExtend32_toInt, ← arithImm_toInt imm]
  exact ⟨writesInRange_add (by decide) (by decide) (exec_checked64 h64 rfl),
    writesInRange_sub (by decide) (by decide) (exec_checked64 h64 rfl),
    writesInRange_add (by decide) (by decide) (exec_checked64 h64 rfl)⟩

end Sys2Proof.Machine
end

section
/-!
Proofs/Traps: system calls, traps and barriers (40_integer_alu R209, 44_trap_system R340 to R355; obligation O47). The
tests of the conditional traps are comparisons of numbers.
-/

namespace Sys2Proof.Machine

variable {s : State} {i : Instr} {c : Bool} {p : Prop} {x y : Dword}

/-! ### A conditional trap (R344 to R355) -/

theorem State.trapIf_of (h : c = true) : s.trapIf c = .next (s.takeException .tr) := if_pos h

theorem State.trapIf_of_not (h : ¬ c = true) : s.trapIf c = .next s := if_neg h

/-- The instruction takes Tr when `p` holds, and otherwise completes and changes nothing. -/
def TrapsWhen (i : Instr) (s : State) (p : Prop) : Prop :=
  (p → raises i s .tr) ∧ (¬ p → completes i s nothing fun _ => True)

theorem trapsWhen_of_exec (h : exec i s = s.trapIf c) (hc : c = true ↔ p) : TrapsWhen i s p :=
  ⟨fun hp => h.trans (State.trapIf_of (hc.2 hp)),
    fun hp => ⟨s, h.trans (State.trapIf_of_not (mt hc.1 hp)), s.changesOnly_refl nothing, trivial⟩⟩

/-! ### The tests as comparisons of numbers -/

theorem not_slt_iff : (!x.slt y) = true ↔ y.toInt ≤ x.toInt := by
  rw [← BitVec.sle_eq_not_slt, BitVec.sle_iff_toInt_le]

theorem not_ult_iff : (!x.ult y) = true ↔ y.toNat ≤ x.toNat := by
  rw [← BitVec.ule_eq_not_ult, BitVec.ule_iff_toNat_le]

theorem beq_iff_toInt_eq : (x == y) = true ↔ x.toInt = y.toInt := beq_iff_eq.trans BitVec.toInt_inj.symm

theorem bne_iff_toInt_ne : (x != y) = true ↔ x.toInt ≠ y.toInt := bne_iff_ne.trans BitVec.toInt_ne.symm

/-- Settles O47: the twelve conditional traps differ in their test only. -/
theorem trapsAndBarriers : Obligations.TrapsAndBarriers := by
  intro s rs rt imm code c20 op trap a b ua ub k uk
  have hk : (arithImm imm).toInt = k := arithImm_toInt imm
  have huk : (arithImm imm).toNat = uk := congrArg BitVec.toNat (sext64_eq_ofInt (by decide) imm)
  exact ⟨rfl, rfl,
    trapsWhen_of_exec rfl not_slt_iff, trapsWhen_of_exec rfl not_ult_iff,
    trapsWhen_of_exec rfl BitVec.slt_iff_toInt_lt, trapsWhen_of_exec rfl BitVec.ult_iff_toNat_lt,
    trapsWhen_of_exec rfl beq_iff_toInt_eq, trapsWhen_of_exec rfl bne_iff_toInt_ne,
    trapsWhen_of_exec rfl (hk ▸ not_slt_iff), trapsWhen_of_exec rfl (huk ▸ not_ult_iff),
    trapsWhen_of_exec rfl (hk ▸ BitVec.slt_iff_toInt_lt), trapsWhen_of_exec rfl (huk ▸ BitVec.ult_iff_toNat_lt),
    trapsWhen_of_exec rfl (hk ▸ beq_iff_toInt_eq), trapsWhen_of_exec rfl (hk ▸ bne_iff_toInt_ne),
    rfl, rfl, rfl⟩

end Sys2Proof.Machine
end

section
/-!
Proofs/MulDiv: multiply, divide and the moves of hi and lo (41_muldiv R230 to R242; obligations O36, O37). The products,
quotients and remainders are first stated for every width; the 32-bit forms work on the low words and sign-extend what
they write, and a doubleword is its own sign extension.
-/

namespace Sys2Proof.Machine

variable {s : State} {i : Instr} {n m : Nat} {u v : Dword} {post : State → Prop}

/-! ### The instructions that write hi and lo -/

theorem completes_setHiLo (h : exec i s = .next (s.setHiLo u v)) (hpost : post (s.setHiLo u v)) :
    completes i s (fun p => p = .hi ∨ p = .lo) post :=
  ⟨_, h, s.changesOnly_setHiLo u v (.inl rfl) (.inr rfl), hpost⟩

/-- A piece that keeps its value drops out of the frame. -/
theorem State.changesOnly_of_agree {t : State} {w : Part → Prop} {q : Part} (h : s.changesOnly t fun p => w p ∨ p = q)
    (hq : s.agree t q) : s.changesOnly t w := by
  intro p hp
  by_cases hpq : p = q
  · exact hpq ▸ hq
  · exact h p (not_or.2 ⟨hp, hpq⟩)

/-- Writing back the value of `lo` changes `hi` alone (R239). -/
theorem State.changesOnly_setHiLo_hi (s : State) (u : Dword) : s.changesOnly (s.setHiLo u s.lo) (· = .hi) :=
  State.changesOnly_of_agree (s.changesOnly_setHiLo u s.lo (.inl rfl) (.inr rfl)) rfl

/-- Writing back the value of `hi` changes `lo` alone (R241). -/
theorem State.changesOnly_setHiLo_lo (s : State) (v : Dword) : s.changesOnly (s.setHiLo s.hi v) (· = .lo) :=
  State.changesOnly_of_agree (s.changesOnly_setHiLo s.hi v (.inr rfl) (.inl rfl)) rfl

theorem exec_of_check64 {k : Result} (h64 : s.ops64 = true) (h : exec i s = s.check64 k) : exec i s = k :=
  h.trans (State.check64_of h64 k)

/-! ### A sign-extended word (R242 b) -/

theorem lo32_sext64 (w : Word) : lo32 (sext64 w) = w := by
  rw [lo32_eq_ofInt, sext64_toInt (by decide), BitVec.ofInt_toInt]

theorem sext64_eq_word32 (w : Word) : sext64 w = word32 (sext64 w).toInt := by
  rw [← sext64_ofInt, ← lo32_eq_ofInt, lo32_sext64]

theorem low32u_eq_toNat (v : Dword) : low32u v = (lo32 v).toNat := (lo32_toNat v).symm

theorem low32u_sext64 (w : Word) : low32u (sext64 w) = w.toNat := by rw [low32u_eq_toNat, lo32_sext64]

/-! ### Products (R230, R231, R234, R235) -/

/-- The two halves of a double-width number, the upper one signed. -/
theorem halves_toInt (h0 : 0 < n) (hm : n + n = m) (p : BitVec m) :
    (p.extractLsb' n n).toInt * 2 ^ n + ((p.extractLsb' 0 n).toNat : ℤ) = p.toInt := by
  subst hm
  conv_rhs => rw [← BitVec.extractLsb'_append_extractLsb' (x := p)]
  rw [BitVec.toInt_append, if_neg (by simpa using h0.ne'), Int.mul_comm]

/-- The two halves of a double-width number, both unsigned. -/
theorem halves_toNat (hm : n + n = m) (p : BitVec m) :
    (p.extractLsb' n n).toNat * 2 ^ n + (p.extractLsb' 0 n).toNat = p.toNat := by
  subst hm
  rw [← toNat_append_eq, BitVec.extractLsb'_append_extractLsb']

/-- A signed product fits in twice the width. -/
theorem toInt_ofInt_mul (h0 : 0 < n) (hm : n + n = m) (a b : BitVec n) :
    (BitVec.ofInt m (a.toInt * b.toInt)).toInt = a.toInt * b.toInt := by
  have hlo := BitVec.le_toInt_mul_toInt (x := a) (y := b)
  have hhi := BitVec.toInt_mul_toInt_le (x := a) (y := b)
  have hpow : (2 : ℤ) ^ (n * 2 - 2) < 2 ^ (m - 1) := Int.pow_lt_pow_of_lt (by decide) (by omega)
  exact BitVec.toInt_ofInt_eq_self (by omega) (by omega) (by omega)

/-- An unsigned product fits in twice the width. -/
theorem toNat_ofNat_mul (hm : n + n = m) (a b : BitVec n) :
    (BitVec.ofNat m (a.toNat * b.toNat)).toNat = a.toNat * b.toNat := by
  subst hm
  rw [BitVec.toNat_ofNat, Nat.mod_eq_of_lt (Nat.pow_add 2 n n ▸ Nat.mul_lt_mul'' a.isLt b.isLt)]

/-- Settles O36: a product fits in hi and lo, whose halves the instructions write. -/
theorem productsAndMoves : Obligations.ProductsAndMoves := by
  intro s rs rt hiLo sext
  refine ⟨completes_setHiLo rfl ⟨sext64_eq_word32 _, sext64_eq_word32 _, ?mult⟩,
    completes_setHiLo rfl ⟨sext64_eq_word32 _, sext64_eq_word32 _, ?multu⟩,
    writesGpr_of_exec rfl rfl, writesGpr_of_exec rfl rfl,
    ⟨_, rfl, s.changesOnly_setHiLo_hi _, rfl⟩, ⟨_, rfl, s.changesOnly_setHiLo_lo _, rfl⟩,
    fun h64 => ⟨completes_setHiLo (exec_of_check64 h64 rfl) ?dmult,
      completes_setHiLo (exec_of_check64 h64 rfl) ?dmultu⟩⟩
  case mult =>
    rw [State.setHiLo_hi, State.setHiLo_lo, sext64_toInt (by decide), low32u_sext64, low32_eq_toInt, low32_eq_toInt]
    exact (halves_toInt (by decide) rfl _).trans (toInt_ofInt_mul (by decide) rfl _ _)
  case multu =>
    rw [State.setHiLo_hi, State.setHiLo_lo, low32u_sext64, low32u_sext64, low32u_eq_toNat, low32u_eq_toNat]
    exact (halves_toNat rfl _).trans (toNat_ofNat_mul rfl _ _)
  case dmult => exact (halves_toInt (by decide) rfl _).trans (toInt_ofInt_mul (by decide) rfl _ _)
  case dmultu => exact (halves_toNat rfl _).trans (toNat_ofNat_mul rfl _ _)

/-! ### Signed division (R232, R236) -/

theorem quotS_zero (a : BitVec n) : quotS a 0 = if a.msb then 1 else BitVec.allOnes n := if_pos rfl

/-- Away from zero the quotient is the bit vectors' own. -/
theorem quotS_eq_sdiv (a : BitVec n) {b : BitVec n} (hb : b ≠ 0) : quotS a b = a.sdiv b := by
  apply BitVec.eq_of_toInt_eq
  rw [quotS, if_neg hb, BitVec.toInt_ofInt, BitVec.toInt_sdiv]

/-- By zero too: the remainder is then the dividend. -/
theorem remS_toInt (a b : BitVec n) : (remS a b).toInt = a.toInt.tmod b.toInt := by
  rw [remS]
  split
  next hb => rw [hb, BitVec.ofNat_eq_ofNat, BitVec.toInt_zero, Int.tmod_zero]
  next => rw [← BitVec.toInt_srem, BitVec.ofInt_toInt]

theorem abs_tmod_lt (a : ℤ) {b : ℤ} (hb : b ≠ 0) : |a.tmod b| < |b| := by
  rw [Int.abs_eq_natAbs, Int.abs_eq_natAbs, Int.natAbs_tmod]
  exact Int.ofNat_lt.2 (Nat.mod_lt _ (Int.natAbs_pos.2 hb))

/-- A remainder that is not zero has the dividend's sign. -/
theorem tmod_sign (a b : ℤ) : (a.tmod b < 0 → a < 0) ∧ (0 < a.tmod b → 0 < a) := by
  refine ⟨fun h => lt_of_not_ge fun ha => h.not_ge (Int.tmod_nonneg b ha), fun h => lt_of_not_ge fun ha => ?_⟩
  have hneg := Int.tmod_nonneg b (Int.neg_nonneg.2 ha)
  rw [Int.neg_tmod] at hneg
  omega

/-- What the rules say of remainder `hi` and quotient `lo` for the signed dividend `x` and divisor `d` of `n` bits. -/
def SignedDivision (n : Nat) (x d : Int) (hi lo : Dword) : Prop :=
  if d = 0 then lo = (if 0 ≤ x then BitVec.allOnes 64 else 1#64) ∧ hi.toInt = x
  else if x = -2 ^ (n - 1) ∧ d = -1 then lo.toInt = x ∧ hi = 0#64
  else lo.toInt * d + hi.toInt = x ∧ |hi.toInt| < |d| ∧ (hi.toInt < 0 → x < 0) ∧ (0 < hi.toInt → 0 < x)

theorem sext64_allOnes (h0 : 0 < n) (hn : n ≤ 64) : sext64 (BitVec.allOnes n) = BitVec.allOnes 64 := by
  apply BitVec.eq_of_toInt_eq
  rw [sext64_toInt hn, BitVec.toInt_allOnes, BitVec.toInt_allOnes, if_pos h0, if_pos (by decide)]

theorem sext64_one (h1 : 1 < n) (hn : n ≤ 64) : sext64 (1#n) = 1#64 := by
  rw [sext64_eq_ofInt hn, BitVec.toInt_one h1]
  rfl

/-- By zero: all ones for a dividend that is not negative, 1 for a negative one. -/
theorem sext64_quotS_zero (h1 : 1 < n) (hn : n ≤ 64) (a : BitVec n) :
    sext64 (quotS a 0) = if 0 ≤ a.toInt then BitVec.allOnes 64 else 1#64 := by
  rw [quotS_zero, BitVec.msb_eq_toInt]
  by_cases ha : 0 ≤ a.toInt
  · rw [if_pos ha, decide_eq_false ha.not_gt]
    exact sext64_allOnes (by omega) hn
  · rw [if_neg ha, decide_eq_true (lt_of_not_ge ha)]
    exact sext64_one h1 hn

/-- The most negative number by -1: its own quotient, since the true one has no `n` bits. -/
theorem quotS_overflow {a b : BitVec n} (h0 : 0 < n) (ha : a.toInt = -2 ^ (n - 1)) (hb : b.toInt = -1) :
    quotS a b = a := by
  have hmin : a = BitVec.intMin n := BitVec.eq_of_toInt_eq (ha.trans (BitVec.toInt_intMin_of_pos h0).symm)
  have hb0 : b ≠ 0 := by
    rintro rfl
    simp at hb
  rw [quotS, if_neg hb0, hb, Int.tdiv_neg, Int.tdiv_one, BitVec.ofInt_neg, BitVec.ofInt_toInt, hmin, BitVec.neg_intMin]

/-- Every other quotient is the true one, truncated toward zero. -/
theorem quotS_toInt {a b : BitVec n} (h0 : 0 < n) (hb : b.toInt ≠ 0) (h : ¬ (a.toInt = -2 ^ (n - 1) ∧ b.toInt = -1)) :
    (quotS a b).toInt = a.toInt.tdiv b.toInt := by
  have hb0 : b ≠ 0 := by
    rintro rfl
    exact hb BitVec.toInt_zero
  rw [quotS_eq_sdiv a hb0]
  refine BitVec.toInt_sdiv_of_ne_or_ne a b (not_and_or.1 fun ⟨hmin, hone⟩ => h ⟨?_, ?_⟩)
  · rw [hmin, BitVec.toInt_intMin_of_pos h0]
  · rw [hone, BitVec.neg_one_eq_allOnes, BitVec.toInt_allOnes, if_pos h0]

theorem signedDivision (h1 : 1 < n) (hn : n ≤ 64) (a b : BitVec n) :
    SignedDivision n a.toInt b.toInt (sext64 (remS a b)) (sext64 (quotS a b)) := by
  have hrem : (sext64 (remS a b)).toInt = a.toInt.tmod b.toInt := (sext64_toInt hn _).trans (remS_toInt a b)
  rw [SignedDivision]
  split
  next hzero =>
    obtain rfl : b = 0 := BitVec.eq_of_toInt_eq (hzero.trans BitVec.toInt_zero.symm)
    exact ⟨sext64_quotS_zero h1 hn a, by rw [hrem, hzero, Int.tmod_zero]⟩
  next hb =>
    split
    next hover =>
      obtain ⟨ha, hone⟩ := hover
      refine ⟨by rw [quotS_overflow (by omega) ha hone, sext64_toInt hn], BitVec.eq_of_toInt_eq ?_⟩
      rw [hrem, hone, Int.tmod_neg, Int.tmod_one, BitVec.toInt_zero]
    next hfits =>
      rw [hrem, sext64_toInt hn, quotS_toInt (by omega) hb hfits]
      exact ⟨Int.tdiv_mul_add_tmod _ _, abs_tmod_lt _ hb, tmod_sign _ _⟩

/-! ### Unsigned division (R233, R237) -/

theorem quotU_zero (a : BitVec n) : quotU a 0 = BitVec.allOnes n := if_pos rfl

theorem remU_zero (a : BitVec n) : remU a 0 = a := if_pos rfl

theorem quotU_toNat (a : BitVec n) {b : BitVec n} (hb : b ≠ 0) : (quotU a b).toNat = a.toNat / b.toNat := by
  rw [quotU, if_neg hb, BitVec.toNat_ofNat, Nat.mod_eq_of_lt (Nat.lt_of_le_of_lt (Nat.div_le_self ..) a.isLt)]

theorem remU_toNat (a : BitVec n) {b : BitVec n} (hb : b ≠ 0) : (remU a b).toNat = a.toNat % b.toNat := by
  rw [remU, if_neg hb, BitVec.toNat_ofNat, Nat.mod_eq_of_lt (Nat.lt_of_le_of_lt (Nat.mod_le ..) a.isLt)]

theorem quotU_mul_add_remU (a : BitVec n) {b : BitVec n} (hb : b ≠ 0) :
    (quotU a b).toNat * b.toNat + (remU a b).toNat = a.toNat := by
  rw [quotU_toNat a hb, remU_toNat a hb, Nat.div_add_mod']

theorem remU_lt (a : BitVec n) {b : BitVec n} (hb : b ≠ 0) : (remU a b).toNat < b.toNat := by
  rw [remU_toNat a hb]
  exact Nat.mod_lt _ (Nat.pos_of_ne_zero fun h => hb (BitVec.eq_of_toNat_eq h))

/-- Settles O37: one statement about signed division at both widths, and one about unsigned division. -/
theorem division : Obligations.Division := by
  intro s rs rt hiLo signed
  refine ⟨completes_setHiLo rfl ?div, completes_setHiLo rfl ⟨sext64_eq_word32 _, sext64_eq_word32 _, ?divu⟩,
    fun h64 => ⟨completes_setHiLo (exec_of_check64 h64 rfl) ?ddiv, completes_setHiLo (exec_of_check64 h64 rfl) ?ddivu⟩⟩
  case div =>
    rw [low32_eq_toInt, low32_eq_toInt]
    exact signedDivision (by decide) (by decide) _ _
  case ddiv =>
    have h := signedDivision (by decide) (by decide) (s.x rs) (s.x rt)
    rwa [sext64, sext64, BitVec.signExtend_eq, BitVec.signExtend_eq] at h
  case divu =>
    rw [State.setHiLo_hi, State.setHiLo_lo]
    simp only [low32u_eq_toNat, lo32_sext64]
    split
    next hzero =>
      have hb : lo32 (s.x rt) = 0 := BitVec.eq_of_toNat_eq hzero
      rw [hb, quotU_zero, remU_zero]
      exact ⟨sext64_allOnes (by decide) (by decide), rfl⟩
    next hne =>
      have hb : lo32 (s.x rt) ≠ 0 := fun h => hne (congrArg BitVec.toNat h)
      exact ⟨quotU_mul_add_remU _ hb, remU_lt _ hb⟩
  case ddivu =>
    rw [State.setHiLo_hi, State.setHiLo_lo]
    split
    next hb =>
      rw [hb]
      exact ⟨quotU_zero _, remU_zero _⟩
    next hb => exact ⟨quotU_mul_add_remU _ hb, remU_lt _ hb⟩

end Sys2Proof.Machine
end

section
/-!
Proofs/Branches: branches and jumps (42_branch_jump R250 to R272, 46_fpu_move R408 to R411; obligations O38, O39). The
delay-slot controller decides what happens to `pc`, `next_pc` and the pending flag; the instructions differ in their
test and their target, and the linking ones write their register first.
-/

namespace Sys2Proof.Machine

variable {s t : State} {i : Instr} {r : Reg} {v a : Dword} {c : Bool} {p : Prop}

/-! ### The tests as comparisons of numbers -/

theorem msb_iff_toInt_neg (x : Dword) : x.msb = true ↔ x.toInt < 0 := by
  rw [BitVec.msb_eq_toInt, decide_eq_true_iff]

theorem not_msb_iff_toInt_nonneg (x : Dword) : (!x.msb) = true ↔ 0 ≤ x.toInt := by
  rw [BitVec.msb_eq_toInt, Bool.not_eq_true', decide_eq_false_iff_not, not_lt]

theorem sle_zero_iff (x : Dword) : x.sle 0#64 = true ↔ x.toInt ≤ 0 := by
  rw [BitVec.sle_iff_toInt_le, BitVec.toInt_zero]

theorem zero_slt_iff (x : Dword) : (0#64).slt x = true ↔ 0 < x.toInt := by
  rw [BitVec.slt_iff_toInt_lt, BitVec.toInt_zero]

theorem not_fcrC_iff (f : Word) : (!fcrC f) = true ↔ f.getLsbD 23 = false := by rw [Bool.not_eq_true', fcrC]

/-! ### A link (R252) -/

theorem State.x_branch (u : State) (c : Bool) (a : Dword) (r : Reg) : (u.branch c a).x r = u.x r :=
  State.x_congr (u.branch_gpr c a) r

theorem State.x_branchLikely (u : State) (c : Bool) (a : Dword) (r : Reg) : (u.branchLikely c a).x r = u.x r :=
  State.x_congr (u.branchLikely_gpr c a) r

/-! ### Branches and jumps that keep their delay slot (R250) -/

/-- In `t` a branch of `s` is pending, and what follows its delay slot is the target `a` when `p` holds. -/
def BranchPendsWhen (s : State) (p : Prop) (a : Dword) (t : State) : Prop :=
  t.branchPending = true ∧ (p → t.nextPc = a) ∧ (¬ p → t.nextPc = s.nextPc)

theorem branchPendsWhen_branch (s : State) (a : Dword) (hc : c = true ↔ p) :
    BranchPendsWhen s p a (s.branch c a) :=
  ⟨s.branch_branchPending c a, fun hp => (s.branch_nextPc c a).trans (if_pos (hc.2 hp)),
    fun hp => (s.branch_nextPc c a).trans (if_neg (mt hc.1 hp))⟩

theorem BranchPendsWhen.of_setX (h : BranchPendsWhen (s.setX r v) p a t) : BranchPendsWhen s p a t := by
  rwa [BranchPendsWhen, State.setX_nextPc] at h

/-- The instruction branches to `a` when `p` holds, and keeps its delay slot. -/
def BranchesWhen (i : Instr) (s : State) (p : Prop) (a : Dword) : Prop :=
  completes i s (fun q => q = .branchPending ∨ q = .nextPc) (BranchPendsWhen s p a)

theorem branchesWhen_of_exec (h : exec i s = .next (s.branch c a)) (hc : c = true ↔ p) : BranchesWhen i s p a :=
  ⟨_, h, s.changesOnly_branch c a (.inl rfl) (.inr rfl), branchPendsWhen_branch s a hc⟩

/-- The instruction links in `r` and branches to `a` when `p` holds, and keeps its delay slot. -/
def LinksAndBranchesWhen (i : Instr) (s : State) (r : Reg) (p : Prop) (a : Dword) : Prop :=
  completes i s (fun q => q = .branchPending ∨ q = .nextPc ∨ q = .gpr r) fun t =>
    t.branchPending = true ∧ (p → t.nextPc = a) ∧ (¬ p → t.nextPc = s.nextPc)
      ∧ t.x r = if r = 0#5 then 0#64 else s.prevPc + 8#64

theorem linksAndBranchesWhen_of_exec (h : exec i s = .next ((s.setX r s.linkValue).branch c a))
    (hc : c = true ↔ p) : LinksAndBranchesWhen i s r p a := by
  obtain ⟨hpending, htaken, hnot⟩ := (branchPendsWhen_branch (s.setX r s.linkValue) a hc).of_setX
  have hlink := (State.x_branch _ c a r).trans (s.x_setX_same r s.linkValue)
  exact ⟨_, h,
    State.changesOnly_trans (s.changesOnly_setX r _ (.inr (.inr rfl)))
      (State.changesOnly_branch _ c a (.inl rfl) (.inr (.inl rfl))),
    hpending, htaken, hnot, hlink⟩

/-- Settles O38: each instruction is one use of the controller, after its link and, for those on the FPU's compare bit,
past `CheckCop1()`. -/
theorem branchesAndJumps : Obligations.BranchesAndJumps := by
  intro s rd rs rt imm idx
  rw [← s.branchTarget_eq imm, ← s.jumpTarget_eq idx]
  intro br link there z
  have always : true = true ↔ True := iff_of_true rfl trivial
  exact ⟨branchesWhen_of_exec rfl always, branchesWhen_of_exec rfl always,
    branchesWhen_of_exec rfl beq_iff_eq, branchesWhen_of_exec rfl bne_iff_ne,
    branchesWhen_of_exec rfl (sle_zero_iff _), branchesWhen_of_exec rfl (zero_slt_iff _),
    branchesWhen_of_exec rfl (msb_iff_toInt_neg _), branchesWhen_of_exec rfl (not_msb_iff_toInt_nonneg _),
    linksAndBranchesWhen_of_exec rfl always, linksAndBranchesWhen_of_exec rfl always,
    linksAndBranchesWhen_of_exec rfl (msb_iff_toInt_neg _),
    linksAndBranchesWhen_of_exec rfl (not_msb_iff_toInt_nonneg _),
    fun hcu1 => ⟨branchesWhen_of_exec (State.checkCop1_of hcu1 _) (not_fcrC_iff _),
      branchesWhen_of_exec (State.checkCop1_of hcu1 _) Iff.rfl⟩⟩

/-! ### Likely branches (R251) -/

theorem State.branchLikely_taken (s : State) (a : Dword) (h : c = true) : s.branchLikely c a = s.branch true a :=
  if_pos h

theorem State.branchLikely_not_taken (s : State) (a : Dword) (h : ¬ c = true) :
    s.branchLikely c a = { s with pc := s.nextPc, nextPc := s.nextPc + 4#64 } := if_neg h

/-- In `t` a branch of `s` to `a` is pending when `p` holds, and otherwise its delay slot is skipped. -/
def SlotSkippedUnless (s : State) (p : Prop) (a : Dword) (t : State) : Prop :=
  (p → t.pc = s.pc ∧ t.nextPc = a ∧ t.branchPending = true)
    ∧ (¬ p → t.pc = s.nextPc ∧ t.nextPc = s.nextPc + 4#64 ∧ t.branchPending = s.branchPending)

theorem slotSkippedUnless_branchLikely (s : State) (a : Dword) (hc : c = true ↔ p) :
    SlotSkippedUnless s p a (s.branchLikely c a) := by
  constructor
  · intro hp
    rw [s.branchLikely_taken a (hc.2 hp)]
    exact ⟨rfl, rfl, rfl⟩
  · intro hp
    rw [s.branchLikely_not_taken a (mt hc.1 hp)]
    exact ⟨rfl, rfl, rfl⟩

theorem SlotSkippedUnless.of_setX (h : SlotSkippedUnless (s.setX r v) p a t) : SlotSkippedUnless s p a t := by
  rwa [SlotSkippedUnless, State.setX_pc, State.setX_nextPc, State.setX_branchPending] at h

/-- The instruction branches to `a` when `p` holds, and otherwise skips its delay slot. -/
def BranchesLikelyWhen (i : Instr) (s : State) (p : Prop) (a : Dword) : Prop :=
  completes i s (fun q => q = .branchPending ∨ q = .nextPc ∨ q = .pc) (SlotSkippedUnless s p a)

theorem branchesLikelyWhen_of_exec (h : exec i s = .next (s.branchLikely c a)) (hc : c = true ↔ p) :
    BranchesLikelyWhen i s p a :=
  ⟨_, h, s.changesOnly_branchLikely c a (.inl rfl) (.inr (.inl rfl)) (.inr (.inr rfl)),
    slotSkippedUnless_branchLikely s a hc⟩

/-- The instruction links in x[31], branches to `a` when `p` holds, and otherwise skips its delay slot. -/
def LinksAndBranchesLikelyWhen (i : Instr) (s : State) (p : Prop) (a : Dword) : Prop :=
  completes i s (fun q => q = .branchPending ∨ q = .nextPc ∨ q = .pc ∨ q = .gpr 31#5) fun t =>
    SlotSkippedUnless s p a t ∧ t.x 31#5 = s.prevPc + 8#64

theorem linksAndBranchesLikelyWhen_of_exec (h : exec i s = .next ((s.setX 31#5 s.linkValue).branchLikely c a))
    (hc : c = true ↔ p) : LinksAndBranchesLikelyWhen i s p a :=
  ⟨_, h,
    State.changesOnly_trans (s.changesOnly_setX 31#5 _ (.inr (.inr (.inr rfl))))
      (State.changesOnly_branchLikely _ c a (.inl rfl) (.inr (.inl rfl)) (.inr (.inr (.inl rfl)))),
    (slotSkippedUnless_branchLikely (s.setX 31#5 s.linkValue) a hc).of_setX,
    (State.x_branchLikely _ c a 31#5).trans (s.x_setX_same 31#5 s.linkValue)⟩

/-- Settles O39, as O38 with the controller of R251. -/
theorem likelyBranches : Obligations.LikelyBranches := by
  intro s rs rt imm
  rw [← s.branchTarget_eq imm]
  intro there goes br link z
  exact ⟨branchesLikelyWhen_of_exec rfl beq_iff_eq, branchesLikelyWhen_of_exec rfl bne_iff_ne,
    branchesLikelyWhen_of_exec rfl (sle_zero_iff _), branchesLikelyWhen_of_exec rfl (zero_slt_iff _),
    branchesLikelyWhen_of_exec rfl (msb_iff_toInt_neg _), branchesLikelyWhen_of_exec rfl (not_msb_iff_toInt_nonneg _),
    linksAndBranchesLikelyWhen_of_exec rfl (msb_iff_toInt_neg _),
    linksAndBranchesLikelyWhen_of_exec rfl (not_msb_iff_toInt_nonneg _),
    fun hcu1 => ⟨branchesLikelyWhen_of_exec (State.checkCop1_of hcu1 _) (not_fcrC_iff _),
      branchesLikelyWhen_of_exec (State.checkCop1_of hcu1 _) Iff.rfl⟩⟩

end Sys2Proof.Machine
end

section
/-!
Proofs/Bytes: the bytes of numbers and the merges of the unaligned accesses (20_memory R82, 43_load_store R298 to R309).
A byte of a number is a digit to the base 256, and a merge replaces some of the digits; which byte stands where in
memory then follows digit by digit.
-/

namespace Sys2Proof.Machine

variable {s t : State} {m : Memory} {pa : Word} {a n k d v u : Nat}

/-! ### The bytes of a number -/

/-- A byte of a number depends on the low bytes up to it alone. -/
theorem byte_congr (h : v % 256 ^ k = u % 256 ^ k) (hd : d < k) :
    BitVec.ofNat 8 (v / 256 ^ d) = BitVec.ofNat 8 (u / 256 ^ d) := by
  have digit : ∀ x : Nat, x / 256 ^ d % 2 ^ 8 = x % 256 ^ k % 256 ^ (d + 1) / 256 ^ d := fun x => by
    rw [Nat.mod_mod_of_dvd x (Nat.pow_dvd_pow 256 hd), Nat.pow_succ 256, Nat.mod_mul_right_div_self]
    rfl
  apply BitVec.eq_of_toNat_eq
  rw [BitVec.toNat_ofNat, BitVec.toNat_ofNat, digit v, digit u, h]

/-- Which bytes stand in memory after a store of `n` bytes depends on the low `n` bytes alone. -/
theorem State.holdsBytes_congr (h : v % 256 ^ n = u % 256 ^ n) (ht : t.holdsBytes pa n v) : t.holdsBytes pa n u := by
  intro k hk
  rw [ht k hk, Nat.pow_mul]
  exact byte_congr h (by omega)

theorem State.stored_congr (h : v % 256 ^ n = u % 256 ^ n) (ht : s.stored t pa n v) : s.stored t pa n u := by
  unfold State.stored at ht ⊢
  split at ht
  · exact State.holdsBytes_congr h ht
  · trivial
  · rw [ht, h]
  · trivial

theorem mul_add_div_of_lt {b x r : Nat} (hr : r < b) : (x * b + r) / b = x := by
  rw [Nat.mul_comm, Nat.mul_add_div (Nat.zero_lt_of_lt hr), Nat.div_eq_of_lt hr, Nat.add_zero]

/-! ### Big-endian numbers (20_memory R82) -/

theorem Memory.bigEndian_lt (m : Memory) (a n : Nat) : m.bigEndian a n < 256 ^ n := by
  induction n with
  | zero => exact Nat.one_pos
  | succ n ih =>
    have hbyte := (m.read (a + n)).isLt
    rw [Memory.bigEndian, Nat.pow_succ]
    omega

/-- The last bytes of a big-endian number. -/
theorem Memory.bigEndian_mod (m : Memory) (a n k : Nat) : m.bigEndian a (n + k) % 256 ^ k = m.bigEndian (a + n) k := by
  rw [Memory.bigEndian_add, Nat.mul_add_mod_self_right, Nat.mod_eq_of_lt (m.bigEndian_lt _ _)]

/-- The first bytes of a big-endian number. -/
theorem Memory.bigEndian_div (m : Memory) (a n k : Nat) : m.bigEndian a (n + k) / 256 ^ k = m.bigEndian a n := by
  rw [Memory.bigEndian_add, mul_add_div_of_lt (m.bigEndian_lt _ _)]

/-- A byte of memory as a byte of the number around it. -/
theorem Memory.read_eq_byte (m : Memory) (a : Nat) (hk : k < n) :
    m.read (a + k) = BitVec.ofNat 8 (m.bigEndian a n / 256 ^ (n - 1 - k)) := by
  have hn : m.bigEndian a n = m.bigEndian a (k + 1 + (n - 1 - k)) := congrArg _ (by omega)
  rw [hn, Memory.bigEndian_div, Memory.bigEndian]
  apply BitVec.eq_of_toNat_eq
  rw [BitVec.toNat_ofNat]
  omega

theorem State.busNumber_lt (s : State) (pa : Word) (n : Nat) : s.busNumber pa n < 256 ^ n := by
  unfold State.busNumber
  split
  · exact Memory.bigEndian_lt ..
  · exact Nat.mod_lt _ (Nat.pow_pos (by decide))

/-! ### Numbers with some bytes replaced -/

section
variable {lo c j : Nat}

theorem pow_pos_256 (e : Nat) : 0 < 256 ^ e := Nat.pow_pos (by decide)

/-- A merge as three runs of bytes. -/
theorem mergedBytes_eq (hn : lo + k ≤ n) : mergedBytes n lo k c v =
    (c / 256 ^ (n - lo) * 256 ^ k + v % 256 ^ k) * 256 ^ (n - lo - k) + c % 256 ^ (n - lo - k) := by
  rw [mergedBytes, Nat.add_mul, Nat.mul_assoc, ← Nat.pow_add, Nat.add_sub_cancel' (by omega)]

/-- What stands above the last bytes a merge keeps. -/
theorem mergedBytes_div (hn : lo + k ≤ n) :
    mergedBytes n lo k c v / 256 ^ (n - lo - k) = c / 256 ^ (n - lo) * 256 ^ k + v % 256 ^ k := by
  rw [mergedBytes_eq hn, mul_add_div_of_lt (Nat.mod_lt _ (pow_pos_256 _))]

/-- The bytes a merge puts in. -/
theorem mergedBytes_byte_inside (hn : lo + k ≤ n) (hj : lo ≤ j) (hjk : j < lo + k) :
    BitVec.ofNat 8 (mergedBytes n lo k c v / 256 ^ (n - 1 - j)) = BitVec.ofNat 8 (v / 256 ^ (lo + k - 1 - j)) := by
  rw [show n - 1 - j = (n - lo - k) + (lo + k - 1 - j) by omega, Nat.pow_add, ← Nat.div_div_eq_div_mul,
    mergedBytes_div hn]
  exact byte_congr (by rw [Nat.mul_add_mod_self_right, Nat.mod_mod]) (by omega)

/-- The bytes a merge keeps. -/
theorem mergedBytes_byte_outside (hn : lo + k ≤ n) (hjn : j < n) (hj : j < lo ∨ lo + k ≤ j) :
    BitVec.ofNat 8 (mergedBytes n lo k c v / 256 ^ (n - 1 - j)) = BitVec.ofNat 8 (c / 256 ^ (n - 1 - j)) := by
  rcases hj with hj | hj
  · have hfirst : mergedBytes n lo k c v / 256 ^ (n - lo) = c / 256 ^ (n - lo) := by
      rw [show n - lo = (n - lo - k) + k by omega, Nat.pow_add, ← Nat.div_div_eq_div_mul, mergedBytes_div hn,
        mul_add_div_of_lt (Nat.mod_lt _ (pow_pos_256 k)), ← Nat.pow_add, Nat.sub_add_cancel (by omega)]
    rw [show n - 1 - j = (n - lo) + (lo - 1 - j) by omega, Nat.pow_add, ← Nat.div_div_eq_div_mul, hfirst,
      Nat.div_div_eq_div_mul]
  · refine byte_congr (k := n - lo - k) ?_ (by omega)
    rw [mergedBytes_eq hn, Nat.mul_add_mod_self_right, Nat.mod_mod]
end

/-! ### The merges of the unaligned accesses as numbers -/

section
variable {w : Nat}

/-- The bits of a word from `k` on are replaced by the low bits of another. -/
theorem replaceHigh_toNat (x y : BitVec w) (hk : k ≤ w) :
    ((x &&& ~~~(BitVec.allOnes w <<< k)) ||| (y <<< k)).toNat = y.toNat % 2 ^ (w - k) * 2 ^ k + x.toNat % 2 ^ k := by
  apply Nat.eq_of_testBit_eq
  intro b
  rw [Nat.mul_comm, Nat.testBit_two_pow_mul_add _ (Nat.mod_lt _ (Nat.two_pow_pos k))]
  simp only [BitVec.testBit_toNat, BitVec.getLsbD_or, BitVec.getLsbD_and, BitVec.getLsbD_not, BitVec.getLsbD_shiftLeft,
    BitVec.getLsbD_allOnes, Nat.testBit_mod_two_pow]
  by_cases hb : b < k
  · simp [hb, show b < w by omega]
  · by_cases hw : b < w
    · simp [hb, hw, show b - k < w - k by omega, show b - k < w by omega]
    · simp [hb, hw, show ¬ b - k < w - k by omega]

/-- The low bits of a word are replaced by the bits of another from `k` on. -/
theorem replaceLow_toNat (x y : BitVec w) (hk : k ≤ w) :
    ((x &&& ~~~(BitVec.allOnes w >>> k)) ||| (y >>> k)).toNat
      = x.toNat / 2 ^ (w - k) * 2 ^ (w - k) + y.toNat / 2 ^ k := by
  have hy : y.toNat / 2 ^ k < 2 ^ (w - k) := by
    rw [Nat.div_lt_iff_lt_mul (Nat.two_pow_pos k), ← Nat.pow_add, Nat.sub_add_cancel hk]
    exact y.isLt
  apply Nat.eq_of_testBit_eq
  intro b
  rw [Nat.mul_comm, Nat.testBit_two_pow_mul_add _ hy]
  simp only [BitVec.testBit_toNat, BitVec.getLsbD_or, BitVec.getLsbD_and, BitVec.getLsbD_not, BitVec.getLsbD_ushiftRight,
    BitVec.getLsbD_allOnes, Nat.testBit_div_two_pow]
  by_cases hb : b < w - k
  · simp [hb, show b < w by omega, show k + b < w by omega, Nat.add_comm]
  · have hy0 : y.getLsbD (k + b) = false := y.getLsbD_of_ge _ (by omega)
    by_cases hw : b < w
    · simp [hb, hw, hy0, show ¬ k + b < w by omega, Nat.sub_add_cancel (Nat.le_of_not_lt hb)]
    · simp [hb, hw, hy0, Nat.sub_add_cancel (Nat.le_of_not_lt hb), x.getLsbD_of_ge b (by omega)]

theorem two_pow_bytes (e : Nat) : 2 ^ (8 * e) = 256 ^ e := Nat.pow_mul ..

variable {off : Nat} (hw : w = 8 * n) (reg mem : BitVec w)
include hw

theorem two_pow_bits (off : Nat) : 2 ^ (w - 8 * off) = 256 ^ (n - off) := by
  rw [hw, ← Nat.mul_sub, two_pow_bytes]

/-- LWL and LDL (R298, R300). -/
theorem loadLeft_toNat (ho : off ≤ n) :
    (loadLeft off reg mem).toNat = mem.toNat % 256 ^ (n - off) * 256 ^ off + reg.toNat % 256 ^ off := by
  rw [loadLeft, replaceHigh_toNat reg mem (by omega), two_pow_bits hw, two_pow_bytes]

/-- LWR and LDR (R299, R301). -/
theorem loadRight_toNat (ho : off < n) :
    (loadRight (n - 1) off reg mem).toNat =
      reg.toNat / 256 ^ (off + 1) * 256 ^ (off + 1) + mem.toNat / 256 ^ (n - 1 - off) := by
  rw [loadRight, replaceLow_toNat reg mem (by omega), two_pow_bits hw, two_pow_bytes,
    show n - (n - 1 - off) = off + 1 by omega]

/-- SWL and SDL (R306, R308). -/
theorem storeLeft_toNat (ho : off < n) :
    (storeLeft off reg mem).toNat = mergedBytes n off (n - off) mem.toNat (reg.toNat / 256 ^ off) := by
  have hreg : reg.toNat / 256 ^ off < 256 ^ (n - off) := by
    rw [Nat.div_lt_iff_lt_mul (pow_pos_256 _), ← Nat.pow_add, Nat.sub_add_cancel ho.le, ← two_pow_bytes, ← hw]
    exact reg.isLt
  rw [storeLeft, replaceLow_toNat mem reg (by omega), two_pow_bits hw, two_pow_bytes, mergedBytes, Nat.sub_self,
    Nat.pow_zero, Nat.mul_one, Nat.mod_one, Nat.add_zero, Nat.mod_eq_of_lt hreg]

/-- SWR and SDR (R307, R309). -/
theorem storeRight_toNat (ho : off < n) :
    (storeRight (n - 1) off reg mem).toNat = mergedBytes n 0 (off + 1) mem.toNat reg.toNat := by
  have hmem : mem.toNat / 256 ^ n = 0 := Nat.div_eq_of_lt (by rw [← two_pow_bytes, ← hw]; exact mem.isLt)
  rw [storeRight, replaceHigh_toNat mem reg (by omega), two_pow_bits hw, two_pow_bytes, mergedBytes,
    Nat.sub_zero, hmem, Nat.zero_mul, Nat.zero_add, show n - (n - 1 - off) = off + 1 by omega,
    show n - (off + 1) = n - 1 - off by omega]

end

end Sys2Proof.Machine
end

section
/-!
Proofs/AlignedAccess: the aligned loads and stores, load linked and store conditional, the FP loads and stores
(43_load_store R291 to R297, R302 to R305, R310 to R317; obligations O40, O41, O45, O46). A load is one bus read and a
register write, a store one bus write; an access that reaches the bus is aligned, so the bytes of memory make the number.
-/

namespace Sys2Proof.Machine

variable {s t u : State} {i : Instr} {pa : Word} {n w : Nat} {r rt b : Reg} {o : Imm16} {x y : Dword}

/-! ### What a bus read answers, as a number (20_memory R82) -/

theorem State.bus8_eq_busNumber (s : State) (pa : Word) : s.bus8 pa = BitVec.ofNat 8 (s.busNumber pa 1) := by
  apply eq_ofNat_of_toNat
  cases hmem : s.isMemory pa with
  | true => rw [State.bus8_of_memory hmem, Memory.read8_toNat, State.busNumber, if_pos hmem]
  | false => rw [State.bus8_toNat_outside hmem, State.busNumber, if_neg (by simp [hmem])]

theorem State.bus16_eq_busNumber (h : pa.toNat % 2 = 0) : s.bus16 pa = BitVec.ofNat 16 (s.busNumber pa 2) := by
  apply eq_ofNat_of_toNat
  cases hmem : s.isMemory pa with
  | true => rw [State.bus16_of_memory hmem, Memory.read16_toNat _ h, State.busNumber, if_pos hmem]
  | false => rw [State.bus16_toNat_outside hmem, State.busNumber, if_neg (by simp [hmem])]

theorem sext64_ofNat (hw : w ≤ 64) (c : Nat) : sext64 (BitVec.ofNat w c) = BitVec.ofInt 64 ((c : ℤ).bmod (2 ^ w)) := by
  rw [sext64_eq_ofInt hw, BitVec.toInt_ofNat']

theorem zext64_ofNat {c : Nat} (hc : c < 2 ^ w) : zext64 (BitVec.ofNat w c) = BitVec.ofNat 64 c := by
  apply BitVec.eq_of_toNat_eq
  rw [zext64, BitVec.toNat_setWidth, BitVec.toNat_ofNat, BitVec.toNat_ofNat, Nat.mod_eq_of_lt hc]

/-! ### Loads of a general register -/

theorem loadsGpr_of_exec (hexec : exec i s = .next ((s.afterRead pa n).setX r x)) (hn : n ≤ 8) (hxy : x = y) :
    loadsGpr i s r pa n y :=
  hxy ▸ ⟨_, hexec,
    State.changesOnly_trans (s.changesOnly_afterRead pa n fun _ => .inr rfl) (State.changesOnly_setX _ r x (.inl rfl)),
    (State.setX_busTrace ..).trans (State.afterRead_busTrace hn), State.x_setX_same ..⟩

/-- Settles O40: each load is one bus read; what is read is the number on the bus, extended to 64 bits. -/
theorem alignedLoads : Obligations.AlignedLoads := by
  intro s rt base imm pa at_ unsigned signed
  have halign : ∀ n, n ∣ 2 ^ 12 → at_ n → pa.toNat % n = 0 := fun n hn h => State.reaches_aligned h hn
  have hlt : ∀ n, s.busNumber pa n < 2 ^ (8 * n) := fun n => two_pow_bytes n ▸ s.busNumber_lt pa n
  refine ⟨fun h => ?byte, fun h => ?half, fun h => ?word, fun h h64 => ?dword⟩
  case byte =>
    have hbus := s.bus8_eq_busNumber pa
    exact ⟨loadsGpr_of_exec (State.load_of h _) (by decide) (hbus ▸ sext64_ofNat (by decide) _),
      loadsGpr_of_exec (State.load_of h _) (by decide) (hbus ▸ zext64_ofNat (hlt 1))⟩
  case half =>
    have hbus := State.bus16_eq_busNumber (s := s) (halign 2 (by decide) h)
    exact ⟨loadsGpr_of_exec (State.load_of h _) (by decide) (hbus ▸ sext64_ofNat (by decide) _),
      loadsGpr_of_exec (State.load_of h _) (by decide) (hbus ▸ zext64_ofNat (hlt 2))⟩
  case word =>
    have hbus := State.bus32_eq_busNumber (s := s) (halign 4 (by decide) h)
    exact ⟨loadsGpr_of_exec (State.load_of h _) (by decide) (hbus ▸ sext64_ofNat (by decide) _), fun h64 =>
      loadsGpr_of_exec ((State.check64_of h64 _).trans (State.load_of h _)) (by decide) (hbus ▸ zext64_ofNat (hlt 4))⟩
  case dword =>
    exact loadsGpr_of_exec ((State.check64_of h64 _).trans (State.load_of h _)) (by decide)
      (State.bus64_eq_busNumber (halign 8 (by decide) h))

/-! ### Bus writes (20_memory R82, R86) -/

theorem zext64_eq_ofNat (v : BitVec w) : zext64 v = BitVec.ofNat 64 v.toNat := (BitVec.ofNat_toNat ..).symm

/-- A word of `n` bytes as the bus carries it. -/
theorem zext64_eq_ofNat_mod (hw : w = 8 * n) (v : BitVec w) : zext64 v = BitVec.ofNat 64 (v.toNat % 256 ^ n) := by
  rw [Nat.mod_eq_of_lt (by rw [← two_pow_bytes, ← hw]; exact v.isLt), zext64_eq_ofNat]

/-- The low `n` bytes of a register. -/
theorem extractLow_mod (n : Nat) (v : Dword) :
    (v.extractLsb' 0 (8 * n)).toNat % 256 ^ n = v.toNat % 256 ^ n := by
  rw [BitVec.extractLsb'_toNat, Nat.shiftRight_zero, two_pow_bytes, Nat.mod_mod]

theorem State.busWrite8_stored (hwf : s.mem.wf = true) (v : Byte) :
    s.changesOnly (s.busWrite8 pa v) (s.storeWrites pa 1) ∧ s.stored (s.busWrite8 pa v) pa 1 v.toNat := by
  rw [State.busWrite8, zext64_eq_ofNat_mod (n := 1) rfl]
  refine State.busWrite_stored (fun k hk => ?_) (fun a ha => Memory.read_write8_outside hwf pa v ha)
  obtain rfl : k = 0 := by omega
  simp [Memory.read_write8 hwf]

theorem State.busWrite16_stored (hwf : s.mem.wf = true) (hpa : pa.toNat % 2 = 0) (v : Half) :
    s.changesOnly (s.busWrite16 pa v) (s.storeWrites pa 2) ∧ s.stored (s.busWrite16 pa v) pa 2 v.toNat := by
  rw [State.busWrite16, zext64_eq_ofNat_mod (n := 2) rfl]
  exact State.busWrite_stored (fun k hk => Memory.read_write16_byte hwf hpa v hk)
    (fun a ha => Memory.read_write16_outside hwf pa v hpa ha)

theorem State.busWrite32_stored (hwf : s.mem.wf = true) (hpa : pa.toNat % 4 = 0) (v : Word) :
    s.changesOnly (s.busWrite32 pa v) (s.storeWrites pa 4) ∧ s.stored (s.busWrite32 pa v) pa 4 v.toNat := by
  rw [State.busWrite32, zext64_eq_ofNat_mod (n := 4) rfl]
  exact State.busWrite_stored (fun k hk => Memory.read_write32_byte hwf hpa v hk)
    (fun a ha => Memory.read_write32_outside hwf pa v hpa ha)

theorem storesBytes_of_exec {v c : Nat} (hexec : exec i s = .next t)
    (ht : s.changesOnly t (s.storeWrites pa n) ∧ s.stored t pa n v) (hv : v % 256 ^ n = c % 256 ^ n) :
    storesBytes i s pa n c :=
  ⟨t, hexec, ht.1, State.stored_congr hv ht.2⟩

/-- Settles O41: each store is one bus write of the low bytes of the register. -/
theorem alignedStores : Obligations.AlignedStores := by
  intro s rt base imm pa hwf at_
  have halign : ∀ n, n ∣ 2 ^ 12 → at_ n → pa.toNat % n = 0 := fun n hn h => State.reaches_aligned h hn
  refine ⟨fun h => ?byte, fun h => ?half, fun h => ?word, fun h h64 => ?dword⟩
  case byte => exact storesBytes_of_exec (State.store_of h _) (State.busWrite8_stored hwf _) (extractLow_mod 1 _)
  case half =>
    have hpa := halign 2 (by decide) h
    exact storesBytes_of_exec (State.store_of h _) (State.busWrite16_stored hwf hpa _) (extractLow_mod 2 _)
  case word =>
    have hpa := halign 4 (by decide) h
    exact storesBytes_of_exec (State.store_of h _) (State.busWrite32_stored hwf hpa _) (extractLow_mod 4 _)
  case dword =>
    have hpa := halign 8 (by decide) h
    exact storesBytes_of_exec ((State.check64_of h64 _).trans (State.store_of h _))
      (State.busWrite64_stored hwf hpa _) rfl

/-! ### Load linked and store conditional (R310 to R313, 20_memory R105) -/

theorem State.changesOnly_setReservation (s : State) (pa : Word) :
    s.changesOnly (s.setReservation pa) fun p => p = .llbit ∨ p = .cp0 .llAddr := by
  intro p hp
  cases p with
  | llbit => simp at hp
  | cp0 c => cases c <;> first | rfl | simp at hp
  | _ => rfl

theorem linked_of_exec (hexec : exec i s = .next (((s.afterRead pa n).setX rt x).setReservation pa)) (hn : n ≤ 8)
    (hxy : x = y) :
    loads i s (fun p => p = .gpr rt ∨ p = .llbit ∨ p = .cp0 .llAddr) pa n fun t =>
      t.x rt = (if rt = 0#5 then 0#64 else y) ∧ t.llbit = true ∧ t.cp0.llAddr.toNat = pa.toNat / 16 := by
  refine ⟨_, hexec, ?frame, (State.setX_busTrace ..).trans (State.afterRead_busTrace hn), ?value, rfl, ?address⟩
  case frame =>
    exact State.changesOnly_trans (s.changesOnly_afterRead pa n fun _ => .inr rfl)
      (State.changesOnly_trans (State.changesOnly_setX _ rt x (.inl (.inl rfl)))
        (State.changesOnly_mono (State.changesOnly_setReservation _ pa) fun _ hp => .inl (.inr hp)))
  case value => exact hxy ▸ State.x_setX_same (s.afterRead pa n) rt x
  case address => exact (BitVec.toNat_ushiftRight ..).trans (Nat.shiftRight_eq_div_pow ..)

theorem State.storeConditional_held {va : Dword} (hl : s.llbit = true) (hr : s.reaches va n .store pa) (rt : Reg)
    (written : Word → State) : s.storeConditional va n rt written = .next ((written pa).setX rt 1#64) := by
  obtain ⟨halign, htranslate⟩ := hr
  rw [State.storeConditional, State.aligned_of halign, if_pos hl, State.translated_ok htranslate]

theorem State.storeConditional_free {va : Dword} (hl : s.llbit = false) (ha : va.toNat % n = 0) (rt : Reg)
    (written : Word → State) : s.storeConditional va n rt written = .next (s.setX rt 0#64) := by
  rw [State.storeConditional, State.aligned_of ha, if_neg (by simp [hl])]

/-- A store does not depend on the general registers after it. -/
theorem State.stored_setX {v : Nat} (h : s.stored t pa n v) (r : Reg) (x : Dword) :
    s.stored (t.setX r x) pa n v := by
  unfold State.stored State.holdsBytes at h ⊢
  simpa using h

theorem storedConditionally_of_exec {v c : Nat} (hexec : exec i s = .next (t.setX rt 1#64))
    (ht : s.changesOnly t (s.storeWrites pa n) ∧ s.stored t pa n v) (hv : v % 256 ^ n = c % 256 ^ n) :
    completes i s (fun p => p = .gpr rt ∨ s.storeWrites pa n p) fun u =>
      u.x rt = (if rt = 0#5 then 0#64 else 1#64) ∧ s.stored u pa n c :=
  ⟨_, hexec,
    State.changesOnly_trans (State.changesOnly_mono ht.1 fun _ => .inr) (State.changesOnly_setX _ rt _ (.inl rfl)),
    State.x_setX_same .., State.stored_setX (State.stored_congr hv ht.2) ..⟩

/-- Settles O45: LL and LLD are a load and a reservation; SC and SCD ask the reservation alone whether to store. -/
theorem loadLinkedStoreConditional : Obligations.LoadLinkedStoreConditional := by
  intro s rt base imm pa va reg linked stored
  refine ⟨fun hr => ?ll, fun h64 hr => ?lld, fun hwf hl hr => ?sc, fun hwf hl h64 hr => ?scd, fun hl ha => ?scFree,
    fun hl h64 ha => ?scdFree⟩
  case ll =>
    have hbus := State.bus32_eq_busNumber (s := s) (State.reaches_aligned hr (by decide))
    exact linked_of_exec (State.load_of hr _) (by decide) (hbus ▸ sext64_ofNat (by decide) _)
  case lld =>
    exact linked_of_exec ((State.check64_of h64 _).trans (State.load_of hr _)) (by decide)
      (State.bus64_eq_busNumber (State.reaches_aligned hr (by decide)))
  case sc =>
    have hpa := State.reaches_aligned hr (by decide)
    exact storedConditionally_of_exec (State.storeConditional_held hl hr ..) (State.busWrite32_stored hwf hpa _)
      (extractLow_mod 4 _)
  case scd =>
    have hpa := State.reaches_aligned hr (by decide)
    exact storedConditionally_of_exec ((State.check64_of h64 _).trans (State.storeConditional_held hl hr ..))
      (State.busWrite64_stored hwf hpa _) rfl
  case scFree => exact writesGpr_of_exec (State.storeConditional_free hl ha ..) rfl
  case scdFree => exact writesGpr_of_exec ((State.check64_of h64 _).trans (State.storeConditional_free hl ha ..)) rfl

/-! ### The 32-bit view of the FPRs (46_fpu_move R401) -/

theorem hi32_append (x y : Word) : hi32 (x ++ y) = x := BitVec.extractLsb'_append_eq_left

theorem lo32_append (x y : Word) : lo32 (x ++ y) = y := BitVec.extractLsb'_append_eq_right

/-- A 64-bit write is seen through every register of its cell, and through no other. -/
theorem State.fgr64_setFgr64_eq (s : State) (f g : FReg) (v : Dword) :
    (s.setFgr64 f v).fgr64 g = if s.fprCell g = s.fprCell f then v else s.fgr64 g := by
  split
  · next h =>
    change (s.fpr.set (s.fprCell f).toNat v (s.fprCell f).isLt)[(s.fprCell g).toNat] = v
    simp only [h, Vector.getElem_set_self]
  · next h => exact State.fpr_setFpr_of_ne s v h

/-- With FR = 0 two registers in one cell are its two halves. -/
theorem State.fprHigh_of_cell {f g : FReg} (hfr : s.fr = false) (hcell : s.fprCell g = s.fprCell f) (hne : g ≠ f) :
    s.fprHigh g = !s.fprHigh f := by
  simp only [State.fprCell, State.fprHigh, hfr, Bool.false_eq_true, if_false, Bool.not_false, Bool.true_and] at hcell ⊢
  refine Bool.eq_not.2 fun hbit => hne (BitVec.eq_of_getLsbD_eq fun k hk => ?_)
  cases k with
  | zero => exact hbit
  | succ k => simpa [-BitVec.reduceNot, hk] using congrArg (·.getLsbD (k + 1)) hcell

/-- A 32-bit write is read back, and the other half of its cell is kept. -/
theorem State.writes32_setFgr32 (s : State) (f : FReg) (v : Word) : s.writes32 (s.setFgr32 f v) f v := by
  have hset : ∀ g, (s.setFgr32 f v).fgr64 g = if s.fprCell g = s.fprCell f
      then if s.fprHigh f then v ++ lo32 (s.fgr64 f) else hi32 (s.fgr64 f) ++ v else s.fgr64 g :=
    fun g => s.fgr64_setFgr64_eq f g _
  have hhigh : ∀ g, (s.setFgr32 f v).fprHigh g = s.fprHigh g := fun _ => rfl
  constructor
  · rw [State.fgr32, hhigh, hset, if_pos rfl]
    split
    · exact hi32_append ..
    · exact lo32_append ..
  · unfold State.keepsOtherHalf
    split
    · next hfr =>
      have hlow : s.fprHigh f = false := by simp [State.fprHigh, hfr]
      rw [hset, if_pos rfl, hlow]
      exact hi32_append ..
    · next hfr =>
      intro g hg
      rw [State.fgr32, State.fgr32, hhigh, hset]
      by_cases hcell : s.fprCell g = s.fprCell f
      · have hsame : s.fgr64 g = s.fgr64 f := by simp only [State.fgr64, hcell]
        rw [if_pos hcell, State.fprHigh_of_cell (by simpa using hfr) hcell hg, hsame]
        cases s.fprHigh f with
        | true => exact lo32_append ..
        | false => exact hi32_append ..
      · rw [if_neg hcell]

/-- The views of the FPU read the FPRs and Status alone. -/
theorem State.writes32_congr {f : FReg} {v : Word} (hfpr : u.fpr = s.fpr) (hcp0 : u.cp0 = s.cp0)
    (h : u.writes32 t f v) : s.writes32 t f v := by
  have hfr : u.fr = s.fr := by rw [State.fr, State.fr, hcp0]
  have h64 : ∀ g, u.fgr64 g = s.fgr64 g := fun g => by simp only [State.fgr64, State.fprCell, hfr, hfpr]
  have hhigh : ∀ g, u.fprHigh g = s.fprHigh g := fun g => by rw [State.fprHigh, State.fprHigh, hfr]
  have h32 : ∀ g, u.fgr32 g = s.fgr32 g := fun g => by rw [State.fgr32, State.fgr32, hhigh, h64]
  simpa only [State.writes32, State.keepsOtherHalf, hfr, h64, h32] using h

/-! ### The FP loads and stores (R314 to R317) -/

theorem lwc1_loads {f : FReg} (hcu1 : s.cu1 = true) (hr : s.reaches (s.effectiveAddress b o) 4 .load pa) :
    loads (.lwc1 f b o) s (· = .fpr (s.fprCell f)) pa 4 fun t => s.writes32 t f (BitVec.ofNat 32 (s.busNumber pa 4)) := by
  have hexec : exec (.lwc1 f b o) s = .next ((s.afterRead pa 4).setFgr32 f (s.bus32 pa)) :=
    (State.checkCop1_of hcu1 _).trans (State.load_of hr _)
  have hcell : (s.afterRead pa 4).fprCell f = s.fprCell f := by simp [State.fprCell, State.fr]
  refine ⟨_, hexec, ?frame, State.afterRead_busTrace (by decide), ?value⟩
  case frame =>
    exact State.changesOnly_trans (s.changesOnly_afterRead pa 4 fun _ => .inr rfl)
      (State.changesOnly_setFpr _ _ _ (.inl (by rw [hcell])))
  case value =>
    rw [← State.bus32_eq_busNumber (State.reaches_aligned hr (by decide))]
    exact State.writes32_congr (s.afterRead_fpr pa 4) (s.afterRead_cp0 pa 4) (State.writes32_setFgr32 ..)

/-- Settles O46: LDC1 and SDC1 were settled with their checks (O23); LWC1 and SWC1 go through the 32-bit view. -/
theorem fpLoadsAndStores : Obligations.FpLoadsAndStores := by
  refine fun s ft base imm pa hcu1 => ⟨lwc1_loads hcu1, ldc1_loads hcu1, fun hwf hr => ?swc1, sdc1_stores hcu1⟩
  have hpa := State.reaches_aligned hr (by decide)
  exact storesBytes_of_exec ((State.checkCop1_of hcu1 _).trans (State.store_of hr _))
    (State.busWrite32_stored hwf hpa _) rfl

end Sys2Proof.Machine
end

section
/-!
Proofs/UnalignedAccess: the unaligned loads and stores (43_load_store R298 to R301, R306 to R309; obligations O42, O43).
Each reads the aligned container of its address; a load merges it into the register, a store merges the register into
it and writes it back, which changes the merged bytes alone.
-/

namespace Sys2Proof.Machine

variable {s t u : State} {i : Instr} {pa : Word} {n lo k v : Nat} {r : Reg} {m : Memory}

/-! ### The aligned container of an address -/

theorem container_toNat (pa : Word) (n : Nat) :
    (pa - BitVec.ofNat 32 (pa.toNat % n)).toNat = pa.toNat - pa.toNat % n := by
  have hle := Nat.mod_le pa.toNat n
  have hmod : (BitVec.ofNat 32 (pa.toNat % n)).toNat = pa.toNat % n := by
    rw [BitVec.toNat_ofNat, Nat.mod_eq_of_lt (hle.trans_lt pa.isLt)]
  rw [BitVec.toNat_sub_of_le (by rwa [BitVec.le_def, hmod]), hmod]

theorem container_aligned (pa : Word) (n : Nat) : (pa - BitVec.ofNat 32 (pa.toNat % n)).toNat % n = 0 := by
  rw [container_toNat]
  exact Nat.sub_mod_eq_zero_of_mod_eq (Nat.mod_mod _ _).symm

theorem wordBase_eq (pa : Word) : wordBase pa = pa - BitVec.ofNat 32 (pa.toNat % 4) := by
  apply BitVec.eq_of_toNat_eq
  rw [container_toNat, wordBase, toNat_and_not_ones (i := 2) pa 3#32 rfl]
  omega

theorem dwordBase_eq (pa : Word) : dwordBase pa = pa - BitVec.ofNat 32 (pa.toNat % 8) := by
  apply BitVec.eq_of_toNat_eq
  rw [container_toNat, dwordBase, toNat_and_not_ones (i := 3) pa 7#32 rfl]
  omega

theorem wordBase_aligned (pa : Word) : (wordBase pa).toNat % 4 = 0 := wordBase_eq pa ▸ container_aligned pa 4

theorem dwordBase_aligned (pa : Word) : (dwordBase pa).toNat % 8 = 0 := dwordBase_eq pa ▸ container_aligned pa 8

theorem wordOffset_eq (va : Dword) : wordOffset va = va.toNat % 4 := by
  rw [wordOffset, BitVec.extractLsb'_toNat, Nat.shiftRight_zero]

theorem dwordOffset_eq (va : Dword) : dwordOffset va = va.toNat % 8 := by
  rw [dwordOffset, BitVec.extractLsb'_toNat, Nat.shiftRight_zero]

/-- The offset in the container is that of the virtual address. -/
theorem State.translate_offset {va : Dword} {kind : Access} (h : s.translate va kind = .ok pa) (hn : n ∣ 2 ^ 12) :
    pa.toNat % n = va.toNat % n := by
  rw [← Nat.mod_mod_of_dvd pa.toNat hn, State.translate_mod h, Nat.mod_mod_of_dvd _ hn]

theorem State.bus32_toNat (h : pa.toNat % 4 = 0) : (s.bus32 pa).toNat = s.busNumber pa 4 := by
  rw [State.bus32_eq_busNumber h, BitVec.toNat_ofNat]
  exact Nat.mod_eq_of_lt (s.busNumber_lt pa 4)

theorem State.bus64_toNat (h : pa.toNat % 8 = 0) : (s.bus64 pa).toNat = s.busNumber pa 8 := by
  rw [State.bus64_eq_busNumber h, BitVec.toNat_ofNat]
  exact Nat.mod_eq_of_lt (s.busNumber_lt pa 8)

/-! ### The unaligned loads -/

theorem sext64_of_toNat {x : Word} (h : x.toNat = v) : sext64 x = word32 (v : ℤ) := by
  rw [eq_ofNat_of_toNat h, ← BitVec.ofInt_natCast, sext64_ofInt]

/-- Settles O42: the merge of the register and the container, as a number. -/
theorem unalignedLoads : Obligations.UnalignedLoads := by
  intro s rt base imm pa va htr o q wb db c e w d
  have hwb : wordBase pa = wb := by rw [wordBase_eq, State.translate_offset htr (by decide)]
  have hdb : dwordBase pa = db := by rw [dwordBase_eq, State.translate_offset htr (by decide)]
  have hc : (s.bus32 (wordBase pa)).toNat = c := by rw [State.bus32_toNat (wordBase_aligned pa), hwb]
  have he : (s.bus64 (dwordBase pa)).toNat = e := by rw [State.bus64_toNat (dwordBase_aligned pa), hdb]
  have ho : wordOffset va = o := wordOffset_eq va
  have hq : dwordOffset va = q := dwordOffset_eq va
  have ho4 : o < 4 := Nat.mod_lt _ (by decide)
  have hq8 : q < 8 := Nat.mod_lt _ (by decide)
  rw [← hwb, ← hdb]
  refine ⟨loadsGpr_of_exec (State.translated_ok htr _) (by decide) (sext64_of_toNat ?lwl),
    loadsGpr_of_exec (State.translated_ok htr _) (by decide) (sext64_of_toNat ?lwr), fun h64 =>
      ⟨loadsGpr_of_exec ((State.check64_of h64 _).trans (State.translated_ok htr _)) (by decide)
          (eq_ofNat_of_toNat ?ldl),
        loadsGpr_of_exec ((State.check64_of h64 _).trans (State.translated_ok htr _)) (by decide)
          (eq_ofNat_of_toNat ?ldr)⟩⟩
  case lwl => rw [ho, loadLeft_toNat (n := 4) rfl _ _ ho4.le, hc, ← low32u_eq_toNat]
  case lwr => rw [ho, loadRight_toNat (n := 4) rfl _ _ ho4, hc, ← low32u_eq_toNat]
  case ldl => rw [hq, loadLeft_toNat (n := 8) rfl _ _ hq8.le, he]
  case ldr => rw [hq, loadRight_toNat (n := 8) rfl _ _ hq8, he]

/-! ### A container written back with some bytes replaced -/

section
variable {c : Nat} (hdvd : n ∣ 2 ^ 32) (hpa : pa.toNat % n = 0) (hlo : lo < n) (hk : lo + k ≤ n)
  (hbytes : ∀ j, j < n → m.read (pa.toNat + j) = BitVec.ofNat 8 (mergedBytes n lo k c v / 256 ^ (n - 1 - j)))
include hdvd hpa hlo hk hbytes

/-- The bytes put in stand from their own place on. -/
theorem State.holdsBytes_of_merged (ht : t.mem = m) : t.holdsBytes (pa + BitVec.ofNat 32 lo) k v := by
  intro j hj
  rw [ht, toNat_add_of_aligned hdvd hpa hlo, Nat.add_assoc, hbytes (lo + j) (by omega),
    mergedBytes_byte_inside hk (by omega) (by omega), Nat.pow_mul, show lo + k - 1 - (lo + j) = k - 1 - j by omega]

/-- Every other byte keeps its value, when the container was read from the same memory. -/
theorem Memory.read_of_merged (hc : c = s.mem.bigEndian pa.toNat n)
    (hothers : ∀ a, ¬ bytesAt pa n (.byte a) → m.read a = s.mem.read a) {a : Nat}
    (ha : ¬ bytesAt (pa + BitVec.ofNat 32 lo) k (.byte a)) : m.read a = s.mem.read a := by
  by_cases hin : bytesAt pa n (.byte a)
  · obtain ⟨j, hj, ⟨⟩⟩ := hin
    have hout : j < lo ∨ lo + k ≤ j := by
      by_contra hcon
      refine ha ⟨j - lo, by omega, ?_⟩
      rw [toNat_add_of_aligned hdvd hpa hlo, Nat.add_assoc, Nat.add_sub_cancel' (by omega)]
    rw [hbytes j hj, mergedBytes_byte_outside hk hj hout, hc, ← Memory.read_eq_byte _ _ hj]
  · exact hothers a hin

end

theorem State.busNumber_of_memory (h : s.isMemory pa = true) (n : Nat) :
    s.busNumber pa n = s.mem.bigEndian pa.toNat n := if_pos h

/-- The read and the full-width write of a partial store (20_memory R109), `m` the memory with the merge written. -/
theorem mergesBytes_of_exec (hn : n ≤ 8) (hdvd : n ∣ 2 ^ 32) (hpa : pa.toNat % n = 0) (hlo : lo < n) (hk : lo + k ≤ n)
    (hbytes : ∀ j, j < n →
      m.read (pa.toNat + j) = BitVec.ofNat 8 (mergedBytes n lo k (s.busNumber pa n) v / 256 ^ (n - 1 - j)))
    (hothers : ∀ a, ¬ bytesAt pa n (.byte a) → m.read a = s.mem.read a)
    (hexec : exec i s = .next ((s.afterRead pa n).busWrite pa n
      (BitVec.ofNat 64 (mergedBytes n lo k (s.busNumber pa n) v)) m)) : mergesBytes i s pa n lo k v := by
  have hkind : (s.afterRead pa n).busKind pa = s.busKind pa := State.busKind_congr (s.afterRead_busMap pa n) pa
  refine ⟨_, hexec, State.changesOnly_trans (s.changesOnly_afterRead pa n fun hmem => ?read)
    (State.changesOnly_busWrite _ pa n _ m (fun hram a ha => ?ram) fun hdev => ?device), ?post⟩
  case read =>
    unfold State.mergeWrites
    cases hs : s.busKind pa with
    | ram | rom => simp [State.isMemory, BusKind.isMemory, hs] at hmem
    | device | undecoded => rfl
  case ram =>
    rw [hkind] at hram
    rw [s.afterRead_mem]
    simp only [State.mergeWrites, hram] at ha
    exact Memory.read_of_merged hdvd hpa hlo hk hbytes (State.busNumber_of_memory (State.isMemory_of_ram hram) n) hothers ha
  case device =>
    rw [hkind] at hdev
    simp only [State.mergeWrites, hdev]
  case post =>
    split
    · next hram =>
      rw [State.busWrite_of_ram (hkind.trans hram)]
      exact State.holdsBytes_of_merged hdvd hpa hlo hk hbytes rfl
    · trivial
    · next hdev => rw [State.busWrite_of_device (hkind.trans hdev), State.traced_busTrace, State.afterRead_busTrace hn]
    · next hund => rw [State.busWrite_lost (.inr (hkind.trans hund)), State.afterRead_busTrace hn]

theorem mergesBytes_of_exec32 {x : Word} (hexec : exec i s = .next ((s.afterRead pa 4).busWrite32 pa x))
    (hwf : s.mem.wf = true) (hpa : pa.toNat % 4 = 0) (hlo : lo < 4) (hk : lo + k ≤ 4)
    (hx : x.toNat = mergedBytes 4 lo k (s.busNumber pa 4) v) : mergesBytes i s pa 4 lo k v := by
  refine mergesBytes_of_exec (m := s.mem.write32 pa x) (by decide) (by decide) hpa hlo hk
    (fun j hj => hx ▸ Memory.read_write32_byte hwf hpa x hj)
    (fun a ha => Memory.read_write32_outside hwf pa x hpa ha) ?_
  rw [hexec, State.busWrite32, s.afterRead_mem, zext64_eq_ofNat, hx]

theorem mergesBytes_of_exec64 {x : Dword} (hexec : exec i s = .next ((s.afterRead pa 8).busWrite64 pa x))
    (hwf : s.mem.wf = true) (hpa : pa.toNat % 8 = 0) (hlo : lo < 8) (hk : lo + k ≤ 8)
    (hx : x.toNat = mergedBytes 8 lo k (s.busNumber pa 8) v) : mergesBytes i s pa 8 lo k v := by
  refine mergesBytes_of_exec (m := s.mem.write64 pa x) (by decide) (by decide) hpa hlo hk
    (fun j hj => hx ▸ Memory.read_write64_byte hwf hpa x hj)
    (fun a ha => Memory.read_write64_outside hwf pa x hpa ha) ?_
  rw [hexec, State.busWrite64, s.afterRead_mem, ← eq_ofNat_of_toNat hx]

/-! ### The unaligned stores -/

/-- A merge puts in the low bytes of a number alone. -/
theorem mergedBytes_congr {c u : Nat} (h : v % 256 ^ k = u % 256 ^ k) :
    mergedBytes n lo k c v = mergedBytes n lo k c u := by rw [mergedBytes, mergedBytes, h]

/-- Settles O43: the merge of the register into the container, as a number. -/
theorem unalignedStores : Obligations.UnalignedStores := by
  intro s rt base imm pa hwf va htr o q wb db
  have hwb : wordBase pa = wb := by rw [wordBase_eq, State.translate_offset htr (by decide)]
  have hdb : dwordBase pa = db := by rw [dwordBase_eq, State.translate_offset htr (by decide)]
  have hc : (s.bus32 (wordBase pa)).toNat = s.busNumber (wordBase pa) 4 := State.bus32_toNat (wordBase_aligned pa)
  have he : (s.bus64 (dwordBase pa)).toNat = s.busNumber (dwordBase pa) 8 := State.bus64_toNat (dwordBase_aligned pa)
  have ho : wordOffset va = o := wordOffset_eq va
  have hq : dwordOffset va = q := dwordOffset_eq va
  have ho4 : o < 4 := Nat.mod_lt _ (by decide)
  have hq8 : q < 8 := Nat.mod_lt _ (by decide)
  rw [← hwb, ← hdb]
  refine ⟨mergesBytes_of_exec32 (State.translated_ok htr _) hwf (wordBase_aligned pa) ho4 (by omega) ?swl,
    mergesBytes_of_exec32 (State.translated_ok htr _) hwf (wordBase_aligned pa) (by decide) (by omega) ?swr, fun h64 =>
      ⟨mergesBytes_of_exec64 ((State.check64_of h64 _).trans (State.translated_ok htr _)) hwf (dwordBase_aligned pa) hq8
          (by omega) ?sdl,
        mergesBytes_of_exec64 ((State.check64_of h64 _).trans (State.translated_ok htr _)) hwf (dwordBase_aligned pa)
          (by decide) (by omega) ?sdr⟩⟩
  case swl => rw [ho, storeLeft_toNat (n := 4) rfl _ _ ho4, hc, ← low32u_eq_toNat]
  case swr =>
    rw [ho, storeRight_toNat (n := 4) rfl _ _ ho4, hc, lo32_toNat]
    exact mergedBytes_congr (Nat.mod_mod_of_dvd _ (Nat.pow_dvd_pow 256 ho4))
  case sdl => rw [hq, storeLeft_toNat (n := 8) rfl _ _ hq8, he]
  case sdr => rw [hq, storeRight_toNat (n := 8) rfl _ _ hq8, he]

end Sys2Proof.Machine
end

section
/-!
Proofs/UnalignedPairs: the two instructions of an unaligned access, one after the other (43_load_store R298 to R301,
R306 to R309; obligation O44). The first leaves what the second's address and translation depend on; then the bytes of
the first container and those of the second make up the value, and where the address is aligned the second instruction
alone does.
-/

namespace Sys2Proof.Machine

variable {s t u : State} {i j : Instr} {pa cb : Word} {n k v : Nat} {r base : Reg} {m l : Memory} {w : Part → Prop}
  {x y : Dword}

/-! ### What the second instruction finds -/

theorem Update.keeps_wf (h : Update i s t) (hs : s.mem.wf = true) : t.mem.wf = true := by
  cases h with
  | busWrite pa n v m hm => exact State.busWrite_wf hs (hm hs)
  | _ => simpa using hs

theorem Answer.keeps_wf (h : Answer i s t) (hs : s.mem.wf = true) : t.mem.wf = true := by
  cases h with
  | raised hu e => cases hu <;> exact hs
  | completed h =>
    induction h with
    | refl => exact hs
    | tail _ h ih => exact h.keeps_wf ih

/-- The accesses of `t` are translated and decoded as those of `s`. -/
structure SameAccesses (s t : State) : Prop where
  translate : ∀ va kind, t.translate va kind = s.translate va kind
  ops64 : t.ops64 = s.ops64
  busMap : t.busMap = s.busMap

/-- Neither a translation nor the platform's map depends on a general register or on memory (20_memory R81, R100). -/
theorem State.changesOnly.sameAccesses (h : s.changesOnly t w)
    (hw : ∀ p, w p → (∃ r, p = .gpr r) ∨ ∃ a, p = .byte a) : SameAccesses s t := by
  have keeps : ∀ p, (∀ r, p ≠ .gpr r) → (∀ a, p ≠ .byte a) → s.agree t p := fun p hr ha =>
    h p fun hp => (hw p hp).elim (fun ⟨r, e⟩ => hr r e) fun ⟨a, e⟩ => ha a e
  have hstatus : t.cp0.status = s.cp0.status := keeps (.cp0 .status) nofun nofun
  have hentryHi : t.cp0.entryHi = s.cp0.entryHi := keeps (.cp0 .entryHi) nofun nofun
  have htlb : t.tlb = s.tlb := Vector.ext fun j hj => keeps (.tlb ⟨j, hj⟩) nofun nofun
  exact {
    translate := State.translate_congr (State.mode_congr hstatus) (State.addr64_congr hstatus)
      (by rw [State.asid, State.asid, hentryHi]) htlb
    ops64 := State.ops64_congr hstatus
    busMap := keeps .busMap nofun nofun }

/-! ### Loads -/

/-- A load from memory is a register write; what it writes to x[0] does not matter. -/
theorem writesGpr_of_loadsGpr (h : loadsGpr i s r pa n x) (hmem : s.isMemory pa = true) (hxy : r ≠ 0#5 → x = y) :
    writesGpr i s r y := by
  obtain ⟨t, hexec, hframe, htrace, hx⟩ := h
  refine ⟨t, hexec, State.changesOnly_of_agree hframe (htrace.trans (if_pos hmem)), hx.trans ?_⟩
  split
  · rfl
  · next hr => exact hxy hr

theorem Memory.bigEndian_congr (h : ∀ a, m.read a = l.read a) (a n : Nat) : m.bigEndian a n = l.bigEndian a n := by
  induction n with
  | zero => rfl
  | succ n ih => rw [Memory.bigEndian, Memory.bigEndian, ih, h]

/-- The offset of the last byte of `n` unaligned ones in its container, by that of the first. -/
def LastOffset (n o p : Nat) : Prop := (o = 0 ∧ p + 1 = n) ∨ (0 < o ∧ o < n ∧ p + 1 = o)

/-- The last bytes of the first container, then the first bytes of the second: the value at the address. -/
theorem Memory.bigEndian_of_pair (m : Memory) {a o p : Nat} (h : LastOffset n o p) (hoa : o ≤ a) (reg : Nat) :
    (m.bigEndian (a - o) n % 256 ^ (n - o) * 256 ^ o + reg % 256 ^ o) / 256 ^ (p + 1) * 256 ^ (p + 1)
      + m.bigEndian (a + (n - 1) - p) n / 256 ^ (n - 1 - p) = m.bigEndian a n := by
  obtain ⟨rfl, rfl⟩ | ⟨h0, hon, rfl⟩ := h
  · have hlt := m.bigEndian_lt a (p + 1)
    simp [Nat.mod_one, Nat.mod_eq_of_lt hlt, Nat.div_eq_of_lt hlt]
  · obtain ⟨q, rfl⟩ := Nat.exists_eq_add_of_le hon.le
    rw [mul_add_div_of_lt (Nat.mod_lt _ (pow_pos_256 _)), Nat.add_sub_cancel_left, Memory.bigEndian_mod,
      Nat.sub_add_cancel hoa, show a + (p + 1 + q - 1) - p = a + q by omega, show p + 1 + q - 1 - p = q by omega,
      Memory.bigEndian_div, ← Memory.bigEndian_add, Nat.add_comm q]

/-! ### Stores -/

/-- A partial store to RAM. -/
theorem completes_of_mergesBytes {lo : Nat} (h : mergesBytes i s pa n lo k v) (hram : s.busKind pa = .ram) :
    completes i s (bytesAt (pa + BitVec.ofNat 32 lo) k) (·.holdsBytes (pa + BitVec.ofNat 32 lo) k v) := by
  obtain ⟨t, hexec, hframe, hpost⟩ := h
  refine ⟨t, hexec, State.changesOnly_mono hframe fun p hp => ?_, ?_⟩
  · simpa only [State.mergeWrites, hram] using hp
  · simpa only [hram] using hpost

theorem low32u_div_mod {o : Nat} (ho : o ≤ 4) (x : Dword) :
    low32u x / 256 ^ o % 256 ^ (4 - o) = x.toNat / 256 ^ o % 256 ^ (4 - o) := by
  have h : low32u x = x.toNat % (256 ^ o * 256 ^ (4 - o)) := by rw [← Nat.pow_add, Nat.add_sub_cancel' ho]; rfl
  rw [h, Nat.mod_mul_right_div_self, Nat.mod_mod]

/-- The high bytes from the address on, then the low bytes up to the last: the value at the address. -/
theorem State.holdsBytes_of_pair {o p : Nat} (h : LastOffset n o p) (hcb : cb.toNat = pa.toNat + (n - 1) - p)
    (ht : t.holdsBytes pa (n - o) (v / 256 ^ o)) (hframe : t.changesOnly u (bytesAt cb (p + 1)))
    (hu : u.holdsBytes cb (p + 1) v) : u.holdsBytes pa n v := by
  have hoffset : (o = 0 ∧ p + 1 = n) ∨ (0 < o ∧ o < n ∧ p + 1 = o) := h
  intro k hk
  by_cases hlast : n - 1 - p ≤ k
  · have hbyte := hu (k - (n - 1 - p)) (by omega)
    rw [hcb] at hbyte
    rw [show pa.toNat + k = pa.toNat + (n - 1) - p + (k - (n - 1 - p)) by omega, hbyte,
      show p + 1 - 1 - (k - (n - 1 - p)) = n - 1 - k by omega]
  · have hkept : u.mem.read (pa.toNat + k) = t.mem.read (pa.toNat + k) := hframe (.byte _) (not_bytesAt (by omega))
    rw [hkept, ht k (by omega), Nat.pow_mul, Nat.div_div_eq_div_mul, ← Nat.pow_add, Nat.pow_mul,
      show o + (n - o - 1 - k) = n - 1 - k by omega]

theorem bytesAt_subset {pb : Word} {q : Part} (hlo : pb.toNat ≤ pa.toNat) (hhi : pa.toNat + k ≤ pb.toNat + n)
    (h : bytesAt pa k q) : bytesAt pb n q := by
  obtain ⟨j, hj, rfl⟩ := h
  exact ⟨pa.toNat + j - pb.toNat, by omega, congrArg Part.byte (by omega)⟩

/-! ### The pairs -/

/-- Two partial stores to RAM: the first writes the bytes from the address on, the second those up to the last. -/
theorem pair_of_mergesBytes {o p c : Nat} (h : LastOffset n o p) (hcb : cb.toNat = pa.toNat + (n - 1) - p)
    (hi : mergesBytes i s (pa - BitVec.ofNat 32 o) n o (n - o) c) (hram : s.busKind (pa - BitVec.ofNat 32 o) = .ram)
    (hc : c % 256 ^ (n - o) = v / 256 ^ o % 256 ^ (n - o))
    (hj : ∀ t, exec i s = .next t → s.changesOnly t (bytesAt pa (n - o)) →
      mergesBytes j t cb n 0 (p + 1) v ∧ t.busKind cb = .ram) :
    ∃ t u, exec i s = .next t ∧ exec j t = .next u ∧ s.changesOnly u (bytesAt pa n) ∧ u.holdsBytes pa n v := by
  have hoffset : (o = 0 ∧ p + 1 = n) ∨ (0 < o ∧ o < n ∧ p + 1 = o) := h
  obtain ⟨t, hexec, hframe, hbytes⟩ := completes_of_mergesBytes hi hram
  rw [BitVec.sub_add_cancel] at hframe hbytes
  obtain ⟨hmerge, hram'⟩ := hj t hexec hframe
  obtain ⟨u, hexec', hframe', hbytes'⟩ := completes_of_mergesBytes hmerge hram'
  rw [BitVec.add_zero] at hframe' hbytes'
  refine ⟨t, u, hexec, hexec', State.changesOnly_trans (State.changesOnly_mono hframe fun q hq => ?first)
    (State.changesOnly_mono hframe' fun q hq => ?last),
    State.holdsBytes_of_pair h hcb (State.holdsBytes_congr hc hbytes) hframe' hbytes'⟩
  case first => exact bytesAt_subset le_rfl (by omega) hq
  case last => exact bytesAt_subset (by omega) (by omega) hq

theorem leftNumber_lt {o : Nat} (ho : o ≤ n) (c reg : Nat) :
    c % 256 ^ (n - o) * 256 ^ o + reg % 256 ^ o < 256 ^ n := by
  have hc := Nat.mod_lt c (pow_pos_256 (n - o))
  have hreg := Nat.mod_lt reg (pow_pos_256 o)
  calc c % 256 ^ (n - o) * 256 ^ o + reg % 256 ^ o
      < (c % 256 ^ (n - o) + 1) * 256 ^ o := by rw [Nat.add_mul]; omega
    _ ≤ 256 ^ (n - o) * 256 ^ o := Nat.mul_le_mul_right _ hc
    _ = 256 ^ n := by rw [← Nat.pow_add, Nat.sub_add_cancel ho]

theorem low32u_word32 {c : Nat} (hc : c < 256 ^ 4) : low32u (word32 (c : ℤ)) = c := by
  rw [← sext64_ofInt, low32u_sext64, BitVec.ofInt_natCast, BitVec.toNat_ofNat]
  exact Nat.mod_eq_of_lt hc

theorem toNat_ofNat_dword {c : Nat} (hc : c < 256 ^ 8) : (BitVec.ofNat 64 c).toNat = c := by
  rw [BitVec.toNat_ofNat]
  exact Nat.mod_eq_of_lt hc

/-- Two register writes, the second one's value decided by what the first leaves. -/
theorem pair_of_writesGpr (hi : writesGpr i s r x)
    (hj : ∀ t, s.changesOnly t (· = .gpr r) → t.x r = (if r = 0#5 then 0#64 else x) → writesGpr j t r y) :
    ∃ t u, exec i s = .next t ∧ exec j t = .next u ∧ s.changesOnly u (· = .gpr r)
      ∧ u.x r = if r = 0#5 then 0#64 else y := by
  obtain ⟨t, hexec, hframe, hx⟩ := hi
  obtain ⟨u, hexec', hframe', hx'⟩ := hj t hframe hx
  exact ⟨t, u, hexec, hexec', State.changesOnly_trans hframe hframe', hx'⟩

/-- The base keeps its value when the register written is another, or x[0]. -/
theorem State.effectiveAddress_of_changesOnly (h : s.changesOnly t (· = .gpr r)) (hr : r = 0#5 ∨ r ≠ base) (o : Imm16) :
    t.effectiveAddress base o = s.effectiveAddress base o := by
  have hx : t.x base = s.x base := by
    by_cases hb : r = base
    · obtain rfl := hr.resolve_right (absurd hb)
      rw [← hb, State.x_zero, State.x_zero]
    · exact h (.gpr base) fun e => hb (Part.gpr.inj e).symm
  rw [State.effectiveAddress, State.effectiveAddress, hx]

section
variable {imm last : Imm16} {pb : Word}

/-- The second load of a pair: its address, its translation and its container are those before the first. -/
theorem second_load (hframe : s.changesOnly t (· = .gpr r)) (hbase : r = 0#5 ∨ r ≠ base)
    (hpb : s.translate (s.effectiveAddress base last) .load = .ok pb) (hcb : s.isMemory cb = true) :
    t.translate (t.effectiveAddress base last) .load = .ok pb ∧ t.ops64 = s.ops64 ∧ t.isMemory cb = true
      ∧ ∀ n, t.busNumber cb n = s.mem.bigEndian cb.toNat n := by
  obtain ⟨htranslate, hops, hmap⟩ := hframe.sameAccesses fun p hp => .inl ⟨_, hp⟩
  have hmem : t.isMemory cb = true := (State.isMemory_congr hmap cb).trans hcb
  have hread : ∀ a, t.mem.read a = s.mem.read a := fun a => hframe (.byte a) nofun
  refine ⟨?_, hops, hmem, fun n => (State.busNumber_of_memory hmem n).trans (Memory.bigEndian_congr hread ..)⟩
  rw [State.effectiveAddress_of_changesOnly hframe hbase, htranslate, hpb]

/-- The second store of a pair: its register, its address and what stands there are those before the first. -/
theorem second_store (hexec : exec i s = .next t) (hframe : s.changesOnly t (bytesAt pa k))
    (hpb : s.translate (s.effectiveAddress base last) .store = .ok pb) (hcb : s.busKind cb = .ram)
    (hwf : s.mem.wf = true) :
    t.translate (t.effectiveAddress base last) .store = .ok pb ∧ t.ops64 = s.ops64 ∧ t.busKind cb = .ram
      ∧ t.mem.wf = true ∧ t.x r = s.x r := by
  obtain ⟨htranslate, hops, hmap⟩ := hframe.sameAccesses fun p ⟨_, _, hp⟩ => .inr ⟨_, hp⟩
  have hgpr : ∀ q, t.x q = s.x q := fun q => hframe (.gpr q) fun ⟨_, _, e⟩ => nomatch e
  refine ⟨?_, hops, (State.busKind_congr hmap cb).trans hcb, (exec_answer hexec).keeps_wf hwf, hgpr r⟩
  rw [State.effectiveAddress, hgpr, htranslate]
  exact hpb

/-- The word pair in memory (R298, R299). -/
theorem lwl_lwr (hpa : s.translate (s.effectiveAddress base imm) .load = .ok pa)
    (hpb : s.translate (s.effectiveAddress base last) .load = .ok pb) (hlast : pb.toNat = pa.toNat + 3)
    (hbase : r = 0#5 ∨ r ≠ base) (hca : s.isMemory (pa - BitVec.ofNat 32 (pa.toNat % 4)) = true)
    (hcb : s.isMemory (pb - BitVec.ofNat 32 (pb.toNat % 4)) = true) :
    ∃ t u, exec (.lwl r base imm) s = .next t ∧ exec (.lwr r base last) t = .next u ∧ s.changesOnly u (· = .gpr r)
      ∧ u.x r = if r = 0#5 then 0#64 else word32 (s.mem.bigEndian pa.toNat 4) := by
  have hoffset : LastOffset 4 (pa.toNat % 4) (pb.toNat % 4) := by unfold LastOffset; omega
  obtain ⟨hlwl, -⟩ := unalignedLoads s r base imm pa hpa
  rw [← State.translate_offset hpa (show 4 ∣ 2 ^ 12 by decide)] at hlwl
  refine pair_of_writesGpr (writesGpr_of_loadsGpr hlwl hca fun _ => rfl) fun t hframe hx => ?_
  obtain ⟨htranslate, -, hmem, hnumber⟩ := second_load hframe hbase hpb hcb
  obtain ⟨-, hlwr, -⟩ := unalignedLoads t r base last pb htranslate
  rw [← State.translate_offset htranslate (show 4 ∣ 2 ^ 12 by decide)] at hlwr
  refine writesGpr_of_loadsGpr hlwr hmem fun hr => ?_
  rw [hx, if_neg hr, low32u_word32 (leftNumber_lt (by omega) ..), hnumber, State.busNumber_of_memory hca,
    container_toNat, container_toNat, hlast]
  exact congrArg (fun c : ℕ => word32 c) (s.mem.bigEndian_of_pair (hlast ▸ hoffset) (Nat.mod_le ..) _)

/-- The doubleword pair in memory (R300, R301). -/
theorem ldl_ldr (h64 : s.ops64 = true) (hpa : s.translate (s.effectiveAddress base imm) .load = .ok pa)
    (hpb : s.translate (s.effectiveAddress base last) .load = .ok pb) (hlast : pb.toNat = pa.toNat + 7)
    (hbase : r = 0#5 ∨ r ≠ base) (hca : s.isMemory (pa - BitVec.ofNat 32 (pa.toNat % 8)) = true)
    (hcb : s.isMemory (pb - BitVec.ofNat 32 (pb.toNat % 8)) = true) :
    ∃ t u, exec (.ldl r base imm) s = .next t ∧ exec (.ldr r base last) t = .next u ∧ s.changesOnly u (· = .gpr r)
      ∧ u.x r = if r = 0#5 then 0#64 else BitVec.ofNat 64 (s.mem.bigEndian pa.toNat 8) := by
  have hoffset : LastOffset 8 (pa.toNat % 8) (pb.toNat % 8) := by unfold LastOffset; omega
  obtain ⟨-, -, hleft⟩ := unalignedLoads s r base imm pa hpa
  obtain ⟨hldl, -⟩ := hleft h64
  rw [← State.translate_offset hpa (show 8 ∣ 2 ^ 12 by decide)] at hldl
  refine pair_of_writesGpr (writesGpr_of_loadsGpr hldl hca fun _ => rfl) fun t hframe hx => ?_
  obtain ⟨htranslate, hops, hmem, hnumber⟩ := second_load hframe hbase hpb hcb
  obtain ⟨-, -, hright⟩ := unalignedLoads t r base last pb htranslate
  obtain ⟨-, hldr⟩ := hright (hops.trans h64)
  rw [← State.translate_offset htranslate (show 8 ∣ 2 ^ 12 by decide)] at hldr
  refine writesGpr_of_loadsGpr hldr hmem fun hr => ?_
  rw [hx, if_neg hr, toNat_ofNat_dword (leftNumber_lt (by omega) ..), hnumber, State.busNumber_of_memory hca,
    container_toNat, container_toNat, hlast]
  exact congrArg (BitVec.ofNat 64) (s.mem.bigEndian_of_pair (hlast ▸ hoffset) (Nat.mod_le ..) _)

/-- The word pair in RAM (R306, R307). -/
theorem swl_swr (hwf : s.mem.wf = true) (hpa : s.translate (s.effectiveAddress base imm) .store = .ok pa)
    (hpb : s.translate (s.effectiveAddress base last) .store = .ok pb) (hlast : pb.toNat = pa.toNat + 3)
    (hca : s.busKind (pa - BitVec.ofNat 32 (pa.toNat % 4)) = .ram)
    (hcb : s.busKind (pb - BitVec.ofNat 32 (pb.toNat % 4)) = .ram) :
    ∃ t u, exec (.swl r base imm) s = .next t ∧ exec (.swr r base last) t = .next u ∧ s.changesOnly u (bytesAt pa 4)
      ∧ u.holdsBytes pa 4 (s.x r).toNat := by
  have hoffset : LastOffset 4 (pa.toNat % 4) (pb.toNat % 4) := by unfold LastOffset; omega
  have hcb_last := (container_toNat pb 4).trans (congrArg (· - pb.toNat % 4) hlast)
  obtain ⟨hswl, -⟩ := unalignedStores s r base imm pa hwf hpa
  rw [← State.translate_offset hpa (show 4 ∣ 2 ^ 12 by decide)] at hswl
  refine pair_of_mergesBytes hoffset hcb_last hswl hca (low32u_div_mod (by omega) _) fun t hexec hframe => ?_
  obtain ⟨htranslate, -, hram, hwf', hx⟩ := second_store (r := r) hexec hframe hpb hcb hwf
  obtain ⟨-, hswr, -⟩ := unalignedStores t r base last pb hwf' htranslate
  rw [← State.translate_offset htranslate (show 4 ∣ 2 ^ 12 by decide), hx] at hswr
  exact ⟨hswr, hram⟩

/-- The doubleword pair in RAM (R308, R309). -/
theorem sdl_sdr (h64 : s.ops64 = true) (hwf : s.mem.wf = true)
    (hpa : s.translate (s.effectiveAddress base imm) .store = .ok pa)
    (hpb : s.translate (s.effectiveAddress base last) .store = .ok pb) (hlast : pb.toNat = pa.toNat + 7)
    (hca : s.busKind (pa - BitVec.ofNat 32 (pa.toNat % 8)) = .ram)
    (hcb : s.busKind (pb - BitVec.ofNat 32 (pb.toNat % 8)) = .ram) :
    ∃ t u, exec (.sdl r base imm) s = .next t ∧ exec (.sdr r base last) t = .next u ∧ s.changesOnly u (bytesAt pa 8)
      ∧ u.holdsBytes pa 8 (s.x r).toNat := by
  have hoffset : LastOffset 8 (pa.toNat % 8) (pb.toNat % 8) := by unfold LastOffset; omega
  have hcb_last := (container_toNat pb 8).trans (congrArg (· - pb.toNat % 8) hlast)
  obtain ⟨-, -, hleft⟩ := unalignedStores s r base imm pa hwf hpa
  obtain ⟨hsdl, -⟩ := hleft h64
  rw [← State.translate_offset hpa (show 8 ∣ 2 ^ 12 by decide)] at hsdl
  refine pair_of_mergesBytes hoffset hcb_last hsdl hca rfl fun t hexec hframe => ?_
  obtain ⟨htranslate, hops, hram, hwf', hx⟩ := second_store (r := r) hexec hframe hpb hcb hwf
  obtain ⟨-, -, hright⟩ := unalignedStores t r base last pb hwf' htranslate
  obtain ⟨-, hsdr⟩ := hright (hops.trans h64)
  rw [← State.translate_offset htranslate (show 8 ∣ 2 ^ 12 by decide), hx] at hsdr
  exact ⟨hsdr, hram⟩

end

/-- Settles O44: after the first instruction of a pair the second one's address, translation and container are as before
(`second_load`, `second_store`), and the two together cover the value. -/
theorem unalignedPairs : Obligations.UnalignedPairs := by
  intro s rt base imm last n pa pb kind va vb ca cb pair reg _ hpa hpb hlast
  refine ⟨?load, ?store⟩
  case load =>
    rintro rfl hbase hca hcb
    refine ⟨?word, ?dword⟩
    case word =>
      rintro rfl
      exact lwl_lwr hpa hpb hlast hbase hca hcb
    case dword =>
      rintro rfl h64
      exact ldl_ldr h64 hpa hpb hlast hbase hca hcb
  case store =>
    rintro rfl hwf hca hcb
    refine ⟨?word, ?dword⟩
    case word =>
      rintro rfl
      exact swl_swr hwf hpa hpb hlast hca hcb
    case dword =>
      rintro rfl h64
      exact sdl_sdr h64 hwf hpa hpb hlast hca hcb

end Sys2Proof.Machine
end

section
/-!
Proofs/Cp0: the moves to and from coprocessor 0 and the return from an exception (45_cp0 R370 to R375, R380; obligations
O16, O48, O49). What a register reads after a write, and which registers a write keeps, is said once, register number by
register number.
-/

namespace Sys2Proof.Machine

variable {s : State} {i : Instr} {rd : BitVec 5} {v : Dword}

/-! ### ERET (R380) -/

/-- What ERET writes. -/
theorem State.changesOnly_returnFromException (s : State) : s.changesOnly s.returnFromException fun p =>
    p = .pc ∨ p = .nextPc ∨ p = .branchPending ∨ p = .llbit ∨ p = .cp0 .status := by
  intro p hp
  cases p with
  | pc | nextPc | branchPending | llbit => simp at hp
  | cp0 r =>
    cases r with
    | status => simp at hp
    | _ => rfl
  | _ => rfl

theorem exec_eret (hu : s.kernelMode = true ∨ s.cu0 = true) : exec .eret s = .next s.returnFromException :=
  State.checkCop0_of hu _

/-- Settles O16: ERET is `State.returnFromException`, whose writes are those of R380. -/
theorem eretReturns : Obligations.EretReturns := fun s hu =>
  ⟨_, exec_eret hu, s.changesOnly_returnFromException, s.returnFromException_pc, rfl,
    s.returnFromException_branchPending, s.returnFromException_llbit, rfl⟩

/-! ### Reads (R370 to R372) -/

theorem sext64_lo32 (v : Dword) : sext64 (lo32 v) = word32 v.toInt := by rw [lo32_eq_ofInt, sext64_ofInt]

/-- Random reads zero-extended (10_state R34). -/
theorem Cp0.read_random_toNat (c : Cp0) : (c.read 1#5).toNat = c.random.toNat :=
  BitVec.toNat_setWidth_of_le (by decide)

/-- Count is the upper 32 bits of the counter (10_state R40). -/
theorem Cp0.count_eq_ofNat (c : Cp0) : c.count = BitVec.ofNat 32 (c.cnt33.toNat / 2) := rfl

theorem Cp0.read_count (c : Cp0) : c.read 9#5 = word32 ((c.cnt33.toNat / 2 : ℕ) : ℤ) := by
  change sext64 c.count = _
  rw [c.count_eq_ofNat, ← BitVec.ofInt_natCast, sext64_ofInt]

theorem Cp0.read_reserved (c : Cp0) : ∀ n ∈ [7#5, 21#5, 22#5, 23#5, 24#5, 25#5, 31#5],
    c.read n = Config.reservedCp0Read := by
  simp only [List.forall_mem_cons]
  exact ⟨rfl, rfl, rfl, rfl, rfl, rfl, rfl, nofun⟩

/-- Settles O48: the moves write what `ReadCP0` answers, and it answers the register, extended where it has 32 bits. -/
theorem cp0Reads : Obligations.Cp0Reads := by
  intro s rt rd hu
  refine ⟨writesGpr_of_exec (State.checkCop0_of hu _) (sext64_lo32 _),
    fun h64 => writesGpr_of_check64 h64 (State.checkCop0_of hu _) rfl, ?_⟩
  intro c r
  have hword : ∀ w : Word, (sext64 w).toInt = w.toInt := sext64_toInt (by decide)
  exact ⟨rfl, rfl, rfl, rfl, rfl, rfl, rfl, rfl, c.read_random_toNat, hword _, hword _, hword _, c.read_count, hword _,
    hword _, hword _, hword _, hword _, hword _, hword _, hword _, hword _, hword _, hword _, hword _, c.read_reserved⟩

/-! ### Writes (R373 to R375) -/

theorem lo32_eq_setWidth (v : Dword) : lo32 v = v.setWidth 32 :=
  BitVec.eq_of_toNat_eq (by rw [lo32_toNat, BitVec.toNat_setWidth])

/-- A word under a mask without bit 31 is extended by zeros. -/
theorem sext64_and_of_msb {m : Word} (hm : m.msb = false) (w : Word) : sext64 (w &&& m) = (w &&& m).setWidth 64 :=
  BitVec.signExtend_eq_setWidth_of_msb_false (by rw [BitVec.msb_and, hm, Bool.and_false])

/-- Under such a mask the upper half of a doubleword does not count. -/
theorem sext64_lo32_and {m : Word} (hm : m.msb = false) (v : Dword) : sext64 (lo32 v &&& m) = v &&& m.setWidth 64 := by
  rw [sext64_and_of_msb hm]
  ext b hb
  by_cases h32 : b < 32
  · simp [lo32, hb, h32]
  · simp [lo32, hb, h32, BitVec.getLsbD_of_ge m b (Nat.not_lt.1 h32)]

/-- Cause after a write, sign-extended: the software interrupts are new, the rest is old. -/
theorem sext64_cause (c : Word) (v : Dword) : sext64 ((c &&& ~~~0x300#32) ||| (lo32 v &&& 0x300#32)) =
    (sext64 c &&& ~~~0x300#64) ||| (v &&& 0x300#64) := by
  have hnew : sext64 (lo32 v &&& 0x300#32) = v &&& 0x300#64 := sext64_lo32_and rfl v
  rw [← hnew, sext64, BitVec.signExtend_or, BitVec.signExtend_and]
  rfl

/-- `ReadCP0` after `WriteCP0` (R370, R375), in the order of the writes: the masks of PageMask, Wired, WatchHi, Parity
Error and TagLo leave no sign; Count is read out of its counter; Cause keeps the bits outside its mask; a number that
takes no write (the last case) reads as before; the others read as they are written. -/
theorem Cp0.read_write (c : Cp0) (n : BitVec 5) (v : Dword) : (c.write n v).read n = cp0Written n v (c.read n) := by
  unfold Cp0.write
  split
  case h_21 => simp [cp0Written]
  all_goals simp only [Cp0.read, Cp0.count, cp0Written, ← lo32_eq_setWidth]
  case h_5 | h_6 | h_16 | h_18 | h_19 => exact sext64_and_of_msb rfl _
  case h_7 => exact congrArg sext64 BitVec.extractLsb'_append_eq_left
  case h_11 => exact sext64_cause c.cause v
  all_goals rfl

/-- No register but those of the list changes. -/
theorem Cp0.write_agree (c : Cp0) {n : BitVec 5} (v : Dword) {r : Cp0Reg} (h : r ∉ Cp0Reg.written n) :
    c.agree (c.write n v) r := by
  unfold Cp0.write
  split
  · cases r with | index => exact (h (.head _)).elim | _ => rfl
  · cases r with | entryLo0 => exact (h (.head _)).elim | _ => rfl
  · cases r with | entryLo1 => exact (h (.head _)).elim | _ => rfl
  · cases r with | context => exact (h (.head _)).elim | _ => rfl
  · cases r with | pageMask => exact (h (.head _)).elim | _ => rfl
  · cases r with | wired => exact (h (.head _)).elim | random => exact (h (.tail _ (.head _))).elim | _ => rfl
  · cases r with | count => exact (h (.head _)).elim | _ => rfl
  · cases r with | entryHi => exact (h (.head _)).elim | _ => rfl
  · cases r with | compare => exact (h (.head _)).elim | cause => exact (h (.tail _ (.head _))).elim | _ => rfl
  · cases r with | status => exact (h (.head _)).elim | _ => rfl
  · cases r with | cause => exact (h (.head _)).elim | _ => rfl
  · cases r with | epc => exact (h (.head _)).elim | _ => rfl
  · cases r with | config => exact (h (.head _)).elim | _ => rfl
  · cases r with | llAddr => exact (h (.head _)).elim | _ => rfl
  · cases r with | watchLo => exact (h (.head _)).elim | _ => rfl
  · cases r with | watchHi => exact (h (.head _)).elim | _ => rfl
  · cases r with | xContext => exact (h (.head _)).elim | _ => rfl
  · cases r with | parityError => exact (h (.head _)).elim | _ => rfl
  · cases r with | tagLo => exact (h (.head _)).elim | _ => rfl
  · cases r with | errorEpc => exact (h (.head _)).elim | _ => rfl
  · exact c.agree_refl r

/-- The instruction writes `v` to the CP0 register `rd` (R375). -/
def WritesCp0 (i : Instr) (s : State) (rd : BitVec 5) (v : Dword) : Prop :=
  completes i s (fun p => ∃ r, r ∈ Cp0Reg.written rd ∧ p = .cp0 r) fun t =>
    t.cp0.read rd = cp0Written rd v (s.cp0.read rd)
    ∧ (rd = 6#5 → t.cp0.random = 31#6) ∧ (rd = 9#5 → t.cp0.cnt33.toNat = v.toNat % 2 ^ 32 * 2)
    ∧ (rd = 11#5 → t.cp0.cause = s.cp0.cause &&& ~~~0x8000#32)

theorem writesCp0_of_exec (h : exec i s = .next (s.setCp0 (s.cp0.write rd v))) : WritesCp0 i s rd v := by
  refine ⟨_, h, s.changesOnly_setCp0 _ fun r hr => s.cp0.write_agree v fun hw => hr ⟨r, hw, rfl⟩,
    s.cp0.read_write rd v, ?wired, ?count, ?compare⟩
  case wired | compare =>
    rintro rfl
    rfl
  case count =>
    rintro rfl
    change (lo32 v ++ 0#1).toNat = _
    rw [toNat_append_eq, lo32_toNat]
    rfl

/-- Settles O49: both moves are one `WriteCP0`, the 32-bit one of the low word sign-extended. -/
theorem cp0Writes : Obligations.Cp0Writes := by
  intro s rt rd hu writes
  refine ⟨?mtc0, fun h64 => ?dmtc0⟩
  case mtc0 => exact writesCp0_of_exec (sext64_lo32 (s.x rt) ▸ State.checkCop0_of hu _)
  case dmtc0 => exact writesCp0_of_exec ((State.checkCop0_of hu _).trans (State.check64_of h64 _))

end Sys2Proof.Machine
end

section
/-!
Proofs/TlbInstructions: TLBWI, TLBWR, TLBR and TLBP (45_cp0 R376 to R379; obligation O50). The registers TLBR writes are
sums of fields, and the index TLBP writes is that of the first entry that matches.
-/

namespace Sys2Proof.Machine

variable {s : State} {i : Instr} {e : TlbEntry} {j : Fin 32}

/-! ### The entry a number names (R376 to R378) -/

theorem State.indexField_toNat (s : State) : s.indexField.toNat = s.cp0.index.toNat % 64 := by
  rw [State.indexField, BitVec.extractLsb'_toNat, Nat.shiftRight_zero]

theorem State.withTlbIndex_of {n : BitVec 6} (hj : n.toNat = j.val) (k : Fin 32 → Result) :
    s.withTlbIndex n k = k j := by
  have hlt : n.toNat < 32 := hj ▸ j.isLt
  rw [State.withTlbIndex, dif_pos hlt, show (⟨n.toNat, hlt⟩ : Fin 32) = j from Fin.ext hj]

theorem State.withTlbIndex_not {n : BitVec 6} (hn : 32 ≤ n.toNat) (k : Fin 32 → Result) :
    s.withTlbIndex n k = .refused (.noTlbEntry n) := dif_neg (Nat.not_lt.2 hn)

/-! ### TLBWI and TLBWR (R377, R378) -/

/-- What holds of the entry written is said of the entry it replaces. -/
theorem completes_setTlb {post : TlbEntry → Prop} (h : exec i s = .next (s.setTlb j e)) (hpost : post e) :
    completes i s (· = .tlb j) fun t => post t.tlb[j] := by
  have hentry : (s.setTlb j e).tlb[j] = e := by simp
  exact ⟨_, h, s.changesOnly_setTlb j e rfl, (congrArg post hentry).mpr hpost⟩

/-- TLBWR, where it may run and Wired leaves Random a range, writes the entry Random names. -/
theorem exec_tlbwr (hu : s.kernelMode = true ∨ s.cu0 = true) (hw : s.wiredField ≤ 31#6)
    (hj : s.cp0.random.toNat = j.val) : exec .tlbwr s = .next (s.setTlb j s.cp0.tlbEntry) :=
  (State.checkCop0_of hu _).trans ((if_neg (BitVec.not_lt.2 hw)).trans (State.withTlbIndex_of hj _))

theorem exec_tlbwr_no_range (hu : s.kernelMode = true ∨ s.cu0 = true) (hw : 31#6 < s.wiredField) :
    exec .tlbwr s = .refused .noRandomRange :=
  (State.checkCop0_of hu _).trans (if_pos hw)

/-! ### TLBR (R376) -/

theorem exec_tlbr (hu : s.kernelMode = true ∨ s.cu0 = true) (hj : s.indexField.toNat = j.val) :
    exec .tlbr s = .next (s.setCp0 (s.cp0.readTlbEntry s.tlb[j])) :=
  (State.checkCop0_of hu _).trans (State.withTlbIndex_of hj _)

/-- What TLBR writes. -/
theorem State.changesOnly_readTlbEntry (s : State) (e : TlbEntry) : s.changesOnly (s.setCp0 (s.cp0.readTlbEntry e))
    fun p => p = .cp0 .pageMask ∨ p = .cp0 .entryHi ∨ p = .cp0 .entryLo0 ∨ p = .cp0 .entryLo1 := by
  refine s.changesOnly_setCp0 _ fun r hr => ?_
  cases r with
  | pageMask | entryHi | entryLo0 | entryLo1 => simp at hr
  | _ => rfl

/-- A field placed from bit `k` on, as a number. -/
theorem field_toNat {n w k : Nat} (f : BitVec n) (hw : n + k ≤ w) : (f.setWidth w <<< k).toNat = f.toNat * 2 ^ k := by
  have hlt : f.toNat * 2 ^ k < 2 ^ w :=
    calc f.toNat * 2 ^ k < 2 ^ n * 2 ^ k := Nat.mul_lt_mul_of_pos_right f.isLt (Nat.two_pow_pos k)
      _ = 2 ^ (n + k) := (Nat.pow_add ..).symm
      _ ≤ 2 ^ w := Nat.pow_le_pow_right (by decide) hw
  rw [BitVec.toNat_shiftLeft, BitVec.toNat_setWidth_of_le (by omega), Nat.shiftLeft_eq, Nat.mod_eq_of_lt hlt]

/-- A field placed above a number that ends below it. -/
theorem field_or_toNat {n w k c : Nat} (f : BitVec n) {b : BitVec w} (hw : n + k ≤ w) (hb : b.toNat = c)
    (hc : c < 2 ^ k) : ((f.setWidth w <<< k) ||| b).toNat = f.toNat * 2 ^ k + c := by
  rw [BitVec.toNat_or, field_toNat f hw, hb, ← Nat.shiftLeft_eq, Nat.shiftLeft_add_eq_or_of_lt hc]

/-- A flag is a field of one bit. -/
theorem flag_or_toNat {w k c : Nat} (x : Bool) {b : BitVec w} (hw : 1 + k ≤ w) (hb : b.toNat = c) (hc : c < 2 ^ k) :
    (((BitVec.ofBool x).setWidth w <<< k) ||| b).toNat = x.toNat * 2 ^ k + c := by
  rw [field_or_toNat _ hw hb hc, BitVec.toNat_ofBool]

/-- An EntryLo from its lowest field to its highest; its G bit is the one flag of the entry (R376). -/
theorem TlbPage.entryLo_toNat (p : TlbPage) (g : Bool) : (p.entryLo g).toNat =
    p.pfn.toNat * 64 + p.c.toNat * 8 + p.d.toNat * 4 + p.v.toNat * 2 + g.toNat := by
  have hglt := g.toNat_lt
  have hvlt := p.v.toNat_lt
  have hdlt := p.d.toNat_lt
  have hg : ((BitVec.ofBool g).setWidth 64).toNat = g.toNat := by cases g <;> rfl
  have hv := flag_or_toNat (k := 1) p.v (by decide) hg (by omega)
  have hd := flag_or_toNat (k := 2) p.d (by decide) hv (by omega)
  have hc := field_or_toNat (k := 3) p.c (by decide) hd (by omega)
  have hpfn := field_or_toNat (k := 6) p.pfn (by decide) hc (by omega)
  simp only [TlbPage.entryLo, zext64, BitVec.or_assoc, hpfn]
  omega

theorem Cp0.readTlbEntry_entryHi (c : Cp0) (e : TlbEntry) : (c.readTlbEntry e).entryHi.toNat =
    e.r.toNat * 2 ^ 62 + e.vpn2.toNat * 2 ^ 13 + e.asid.toNat := by
  have hasid : (e.asid.setWidth 64).toNat = e.asid.toNat := BitVec.toNat_setWidth_of_le (by decide)
  have hvpn2 := field_or_toNat (k := 13) e.vpn2 (by decide) hasid (by omega)
  have hr := field_or_toNat (k := 62) e.r (by decide) hvpn2 (by omega)
  simp only [Cp0.readTlbEntry, zext64, BitVec.or_assoc, hr, Nat.add_assoc]

/-! ### TLBP (R379) -/

theorem exec_tlbp (hu : s.kernelMode = true ∨ s.cu0 = true) :
    exec .tlbp s = .next (s.setCp0 { s.cp0 with index := tlbProbe s.tlb s.cp0.entryHi }) :=
  State.checkCop0_of hu _

/-- What TLBP writes. -/
theorem State.changesOnly_setIndex (s : State) (x : Word) :
    s.changesOnly (s.setCp0 { s.cp0 with index := x }) (· = .cp0 .index) := by
  refine s.changesOnly_setCp0 _ fun r hr => ?_
  cases r with
  | index => simp at hr
  | _ => rfl

/-- When an entry matches (R95), for any mask. -/
theorem TlbEntry.hits_iff_fields (e : TlbEntry) (va : Dword) (asid : BitVec 8) : e.hits va asid = true ↔
    e.initialized = true ∧ e.vpn2 = va.extractLsb' 13 27 &&& ~~~(e.mask.setWidth 27) ∧ e.r = va.extractLsb' 62 2
      ∧ (e.global = true ∨ e.asid = asid) := by
  simp only [TlbEntry.hits, Bool.and_eq_true, Bool.or_eq_true, beq_iff_eq, and_assoc, eq_comm (b := e.vpn2),
    eq_comm (b := e.r)]

theorem tlbProbe_of_no_hit {tlb : Vector TlbEntry 32} {hi : Dword}
    (h : ∀ j : Fin 32, ¬ (tlb[j]).hits hi (hi.extractLsb' 0 8) = true) : tlbProbe tlb hi = 0x80000000#32 := by
  have hnone : tlb.toList.findIdx? (fun e => e.hits hi (hi.extractLsb' 0 8)) = none := by
    rw [List.findIdx?_eq_none_iff]
    intro e he
    obtain ⟨j, hj, rfl⟩ := List.mem_iff_getElem.1 he
    simpa using h ⟨j, by simpa using hj⟩
  rw [tlbProbe, hnone]

/-- The lowest index that matches. -/
theorem tlbProbe_of_first_hit {tlb : Vector TlbEntry 32} {hi : Dword} {j : Fin 32}
    (hj : (tlb[j]).hits hi (hi.extractLsb' 0 8) = true)
    (hbefore : ∀ k : Fin 32, k < j → ¬ (tlb[k]).hits hi (hi.extractLsb' 0 8) = true) :
    (tlbProbe tlb hi).toNat = j.val := by
  have hfind : tlb.toList.findIdx? (fun e => e.hits hi (hi.extractLsb' 0 8)) = some j.val := by
    rw [List.findIdx?_eq_some_iff_getElem]
    exact ⟨by simp, by simpa using hj, fun k hk => by simpa using hbefore ⟨k, by omega⟩ hk⟩
  rw [tlbProbe, hfind, BitVec.toNat_ofNat]
  omega

/-- Settles O50: TLBWI and TLBWR write the one entry the registers make, TLBR sums the fields of the entry it reads, and
`matched` is what the lookup's `hits` says. -/
theorem tlbInstructions : Obligations.TlbInstructions := by
  intro s hu ix c fromRegisters lo matched
  have hindex : s.indexField.toNat = ix := s.indexField_toNat
  have hwritten : fromRegisters c.tlbEntry := ⟨rfl, rfl, rfl, rfl, rfl, rfl, rfl, rfl, rfl, rfl, rfl, rfl, rfl, rfl⟩
  have hmatched : ∀ e : TlbEntry, e.hits c.entryHi (c.entryHi.extractLsb' 0 8) = true ↔ matched e :=
    fun e => e.hits_iff_fields ..
  refine ⟨fun j hj => completes_setTlb (exec_tlbwi hu (hindex.trans hj.symm)) hwritten,
    fun j hj hw => completes_setTlb (exec_tlbwr hu hw hj.symm) hwritten, fun j hj => ?tlbr, ?tlbp, fun hix => ?refused,
    exec_tlbwr_no_range hu⟩
  case tlbr =>
    exact ⟨_, exec_tlbr hu (hindex.trans hj.symm), s.changesOnly_readTlbEntry _, field_toNat _ (by decide),
      c.readTlbEntry_entryHi _, TlbPage.entryLo_toNat .., TlbPage.entryLo_toNat ..⟩
  case tlbp =>
    refine ⟨_, exec_tlbp hu, s.changesOnly_setIndex _, fun h => ?none, fun j hj hbefore => ?first⟩
    case none => exact tlbProbe_of_no_hit fun j hj => h j ((hmatched _).1 hj)
    case first =>
      exact tlbProbe_of_first_hit ((hmatched _).2 hj) fun k hk hk' => hbefore k hk ((hmatched _).1 hk')
  case refused =>
    have hno : 32 ≤ s.indexField.toNat := hindex ▸ hix
    exact ⟨(State.checkCop0_of hu _).trans (State.withTlbIndex_not hno _),
      (State.checkCop0_of hu _).trans (State.withTlbIndex_not hno _)⟩

end Sys2Proof.Machine
end

section
/-!
Proofs/FpuMove: the register views of the FPU, the moves to and from it, its control registers (46_fpu_move R401 to R407;
obligations O51, O52). A 32-bit write is said once for each half of its cell; CTC1 is one write of FCR31 and one test.
-/

namespace Sys2Proof.Machine

variable {s : State} {i : Instr} {rt : Reg} {f : FReg} {v w : Word}

/-! ### The cells behind the views (R401) -/

theorem State.fprHigh_iff (s : State) (f : FReg) : s.fprHigh f = true ↔ s.fr = false ∧ f.getLsbD 0 = true := by
  rw [State.fprHigh, Bool.and_eq_true, Bool.not_eq_true']

theorem State.fprCell_of_fr_false (hfr : s.fr = false) (f : FReg) : s.fprCell f = f &&& ~~~1#5 :=
  if_neg (by simp [hfr])

theorem State.changesOnly_setFgr64 (s : State) (f : FReg) (d : Dword) :
    s.changesOnly (s.setFgr64 f d) (· = .fpr (s.fprCell f)) :=
  s.changesOnly_setFpr _ d rfl

theorem State.changesOnly_setFgr32 (s : State) (f : FReg) (v : Word) :
    s.changesOnly (s.setFgr32 f v) (· = .fpr (s.fprCell f)) :=
  s.changesOnly_setFgr64 f _

/-- The cell after a 32-bit write of its high half. -/
theorem State.fprAt_setFgr32_high (h : s.fprHigh f = true) (v : Word) :
    (s.setFgr32 f v).fprAt (s.fprCell f) = v ++ lo32 (s.fprAt (s.fprCell f)) := by
  rw [State.setFgr32, if_pos h]
  exact s.fgr64_setFgr64 f _

/-- The cell after a 32-bit write of its low half. -/
theorem State.fprAt_setFgr32_low (h : ¬ s.fprHigh f = true) (v : Word) :
    (s.setFgr32 f v).fprAt (s.fprCell f) = hi32 (s.fprAt (s.fprCell f)) ++ v := by
  rw [State.setFgr32, if_neg h]
  exact s.fgr64_setFgr64 f _

/-- Settles O51: the obligation's cell is `fprCell`, and the half a 32-bit access uses is the one `fprHigh` names. -/
theorem fpRegisterViews : Obligations.FpRegisterViews := by
  intro s f v d odd even cell keeps t
  have hhigh : s.fprHigh f = true ↔ s.fr = false ∧ odd := s.fprHigh_iff f
  have heven : s.fr = false → s.fprCell f = even := fun hfr => State.fprCell_of_fr_false hfr f
  refine ⟨rfl, ?read32, s.fgr64_setFgr64 f d, s.changesOnly_setFgr64 f d, s.changesOnly_setFgr32 f v, fun h => ?high,
    fun h => ?low⟩
  case read32 =>
    rw [State.fgr32]
    by_cases h : s.fr = false ∧ odd
    · rw [if_pos (hhigh.2 h), if_pos h, ← heven h.1]
      rfl
    · rw [if_neg (mt hhigh.1 h), if_neg h]
      rfl
  case high =>
    rw [← heven h.1, State.fprAt_setFgr32_high (hhigh.2 h) v]
    exact ⟨hi32_append .., lo32_append ..⟩
  case low =>
    have ht : t.fprAt cell = _ := State.fprAt_setFgr32_low (mt hhigh.1 h) v
    rw [ht]
    exact ⟨lo32_append .., hi32_append ..⟩

/-! ### The moves (R402, R403, R405, R406) -/

theorem sext64_eq_word32_toInt (w : Word) : sext64 w = word32 w.toInt := by
  rw [← sext64_ofInt, BitVec.ofInt_toInt]

theorem exec_mtc1 (hcu1 : s.cu1 = true) : exec (.mtc1 rt f) s = .next (s.setFgr32 f ((s.x rt).setWidth 32)) :=
  lo32_eq_setWidth (s.x rt) ▸ State.checkCop1_of hcu1 _

theorem exec_dmtc1 (hcu1 : s.cu1 = true) (h64 : s.ops64 = true) :
    exec (.dmtc1 rt f) s = .next (s.setFgr64 f (s.x rt)) :=
  (State.checkCop1_of hcu1 _).trans (State.check64_of h64 _)

/-! ### The control registers (R404, R407) -/

theorem exec_ctc1_fcr31 (hcu1 : s.cu1 = true) (rt : Reg) :
    exec (.ctc1 rt 31#5) s = s.writeFcr31 ((s.x rt).setWidth 32 &&& 0x0183FFFF#32) :=
  lo32_eq_setWidth (s.x rt) ▸ State.checkCop1_of hcu1 _

/-- The causes a value of FCR31 holds trap when E is among them or one is enabled. -/
theorem fpTraps_fcrCause_iff (w : Word) : fpTraps w (fcrCause w) = true ↔
    w.getLsbD 17 = true ∨ w.extractLsb' 12 5 &&& w.extractLsb' 7 5 ≠ 0#5 := by
  have hE : (fcrCause w).getLsbD 5 = w.getLsbD 17 := by simp [fcrCause]
  have hcauses : (fcrCause w).extractLsb' 0 5 = w.extractLsb' 12 5 := by
    ext b hb
    simp [fcrCause, Nat.lt_succ_of_lt hb]
  rw [fpTraps, hE, hcauses, Bool.or_eq_true, bne_iff_ne, fcrEnable]

theorem State.writeFcr31_of_trap (h : fpTraps w (fcrCause w) = true) :
    s.writeFcr31 w = .next ((s.setFcr31 w).takeException .fpe) :=
  if_pos h

theorem State.writeFcr31_of_no_trap (h : ¬ fpTraps w (fcrCause w) = true) :
    s.writeFcr31 w = .next (s.setFcr31 w) :=
  if_neg h

theorem exec_cfc1_refused (hcu1 : s.cu1 = true) (rt : Reg) (h0 : f ≠ 0#5) (h31 : f ≠ 31#5) :
    exec (.cfc1 rt f) s = .refused (.noFpControlRegister f) :=
  (State.checkCop1_of hcu1 _).trans ((if_neg h0).trans (if_neg h31))

theorem exec_ctc1_refused (hcu1 : s.cu1 = true) (rt : Reg) (h0 : f ≠ 0#5) (h31 : f ≠ 31#5) :
    exec (.ctc1 rt f) s = .refused (.noFpControlRegister f) :=
  (State.checkCop1_of hcu1 _).trans ((if_neg h31).trans (if_neg h0))

/-- Settles O52: each move is one register write past its checks, and CTC1 traps by the test of the value it wrote. -/
theorem fpuMoves : Obligations.FpuMoves := by
  intro s rt f hcu1 cell w
  refine ⟨writesGpr_of_exec (State.checkCop1_of hcu1 _) (sext64_eq_word32_toInt _),
    fun h64 => writesGpr_of_check64 h64 (State.checkCop1_of hcu1 _) rfl,
    ⟨_, exec_mtc1 hcu1, s.changesOnly_setFgr32 f _, s.writes32_setFgr32 f _⟩,
    fun h64 => ⟨_, exec_dmtc1 hcu1 h64, s.changesOnly_setFgr64 f _, s.fgr64_setFgr64 f _⟩,
    writesGpr_of_exec (State.checkCop1_of hcu1 _) (sext64_eq_word32_toInt _),
    writesGpr_of_exec (State.checkCop1_of hcu1 _) (sext64_eq_word32_toInt _), fun ⟨hE, hnone⟩ => ?written,
    fun h => ?trapped, ⟨s, State.checkCop1_of hcu1 _, s.changesOnly_refl _, trivial⟩,
    fun h0 h31 => ⟨exec_cfc1_refused hcu1 rt h0 h31, exec_ctc1_refused hcu1 rt h0 h31⟩⟩
  case written =>
    have hno : ¬ fpTraps w (fcrCause w) = true := fun ht =>
      ((fpTraps_fcrCause_iff w).1 ht).elim (Bool.eq_false_iff.1 hE) fun hsome => hsome hnone
    exact ⟨_, (exec_ctc1_fcr31 hcu1 rt).trans (State.writeFcr31_of_no_trap hno), s.changesOnly_setFcr31 w rfl, rfl⟩
  case trapped =>
    exact (exec_ctc1_fcr31 hcu1 rt).trans (State.writeFcr31_of_trap ((fpTraps_fcrCause_iff w).2 h))

end Sys2Proof.Machine
end

section
/-!
Proofs/FpuSignals: what every FPU operation does with its answer (47_fpu_arith R432). FCR31 after a signal is computed
once; `fpSignals_of_fpOp` and `fpSignals_of_fxOp` then turn each statement about an instruction into one about the
causes and the value that the arithmetic answers.
-/

namespace Sys2Proof.Machine

variable {s : State} {i : Instr} {e : FpExc} {fd : FReg} {ans : FpAnswer} {k : State → Result} {w : Part → Prop}
  {post : State → Prop} {v : Dword}

/-! ### FCR31 after a signal -/

theorem fcrEnable_clearCause (g : Word) : fcrEnable (fcrClearCause g) = fcrEnable g := by
  rw [fcrEnable, fcrClearCause, BitVec.extractLsb'_and]
  exact BitVec.and_allOnes

theorem fcrCause_clearCause (g : Word) : fcrCause (fcrClearCause g) = 0#6 := by
  rw [fcrCause, fcrClearCause, BitVec.extractLsb'_and]
  exact BitVec.and_zero

theorem fcrCause_addCause_clearCause (g : Word) (e : FpExc) : fcrCause (fcrAddCause (fcrClearCause g) e) = e := by
  have he : (e.setWidth 32 <<< 12).extractLsb' 12 6 = e := by revert e; decide
  rw [fcrCause, fcrAddCause, BitVec.extractLsb'_or, he, ← fcrCause, fcrCause_clearCause, BitVec.zero_or]

/-- A trapped signal writes the causes alone. -/
theorem fcrTraps_addCause (g : Word) (e : FpExc) : fcrTraps g (fcrAddCause (fcrClearCause g) e) e := by
  refine ⟨?_, fcrCause_addCause_clearCause g e⟩
  have he : (e.setWidth 32 <<< 12) &&& ~~~0x0003F000#32 = 0#32 := by revert e; decide
  rw [fcrAddCause, BitVec.and_or_distrib_right, he, BitVec.or_zero, fcrClearCause, BitVec.and_assoc, BitVec.and_self]

/-- A signal that does not trap writes the causes and adds them to the flags. -/
theorem fcrSignals_addFlags (g : Word) (e : FpExc) :
    fcrSignals g (fcrAddFlags (fcrAddCause (fcrClearCause g) e) e) e := by
  refine ⟨((sameBesidesSignals_clearCause g).addCause e).addFlags e, ?cause, ?flags⟩
  case cause =>
    have he : ((e.extractLsb' 0 5).setWidth 32 <<< 2).extractLsb' 12 6 = 0#6 := by revert e; decide
    rw [fcrAddFlags, fcrCause, BitVec.extractLsb'_or, he, BitVec.or_zero]
    exact fcrCause_addCause_clearCause g e
  case flags =>
    have hf : ((e.extractLsb' 0 5).setWidth 32 <<< 2).extractLsb' 2 5 = e.extractLsb' 0 5 := by revert e; decide
    have hc : (e.setWidth 32 <<< 12).extractLsb' 2 5 = 0#5 := by revert e; decide
    have hg : (fcrClearCause g).extractLsb' 2 5 = g.extractLsb' 2 5 := by
      rw [fcrClearCause, BitVec.extractLsb'_and]
      exact BitVec.and_allOnes
    rw [fcrAddFlags, fcrAddCause, BitVec.extractLsb'_or, BitVec.extractLsb'_or, hf, hc, hg, BitVec.or_zero]

/-- The causes that trap, as the obligations say it. -/
theorem fpTraps_iff (g : Word) (e : FpExc) :
    fpTraps g e = true ↔ e.getLsbD 5 = true ∨ e.extractLsb' 0 5 &&& fcrEnable g ≠ 0#5 := by
  rw [fpTraps, Bool.or_eq_true, bne_iff_ne]

theorem fpTraps_clearCause (g : Word) (e : FpExc) : fpTraps (fcrClearCause g) e = fpTraps g e := by
  rw [fpTraps, fpTraps, fcrEnable_clearCause]

/-- No cause never traps. -/
theorem fpTraps_fpNone (g : Word) : fpTraps g fpNone = false :=
  Bool.eq_false_iff.2 fun h => ((fpTraps_iff g _).1 h).elim (by decide) fun hne => hne BitVec.zero_and

/-- With nothing enabled only cause E traps. -/
theorem fpTraps_of_disabled {g : Word} (hg : fcrEnable g = 0#5) (he : e.getLsbD 5 = false) : fpTraps g e = false := by
  rw [fpTraps, he, hg, BitVec.and_zero]
  rfl

/-! ### The framework of an operation -/

theorem State.fpSignal_of_trap (hcu1 : s.cu1 = true) (h : fpTraps s.fcr31 e = true) (k : State → Result) :
    s.fpSignal e k = .next ((s.setFcr31 (fcrAddCause (fcrClearCause s.fcr31) e)).takeException .fpe) :=
  (State.checkCop1_of hcu1 _).trans (if_pos ((fpTraps_clearCause ..).trans h))

theorem State.fpSignal_of_no_trap (hcu1 : s.cu1 = true) (h : fpTraps s.fcr31 e = false) (k : State → Result) :
    s.fpSignal e k = k (s.setFcr31 (fcrAddFlags (fcrAddCause (fcrClearCause s.fcr31) e) e)) := by
  have hno : fpTraps (s.setFcr31 (fcrClearCause s.fcr31)).fcr31 e = false := (fpTraps_clearCause ..).trans h
  rw [State.fpSignal, State.checkCop1_of hcu1, State.signal_of hno]
  rfl

/-- An operation signals its causes when its continuation, run with FCR31 written, leaves FCR31 and does what is
claimed. -/
theorem fpSignals_of_exec (hcu1 : s.cu1 = true) (hexec : exec i s = s.fpSignal e k)
    (hk : ∀ g, ∃ t, k (s.setFcr31 g) = .next t ∧ (s.setFcr31 g).changesOnly t w ∧ t.fcr31 = g ∧ post t) :
    fpSignals i s e w post := by
  unfold fpSignals
  split
  · next h => exact ⟨_, fcrTraps_addCause .., hexec.trans (State.fpSignal_of_trap hcu1 ((fpTraps_iff ..).2 h) k)⟩
  · next h =>
    have hno : fpTraps s.fcr31 e = false := Bool.eq_false_iff.2 (mt (fpTraps_iff ..).1 h)
    obtain ⟨t, hnext, hframe, hfcr, hpost⟩ := hk (fcrAddFlags (fcrAddCause (fcrClearCause s.fcr31) e) e)
    refine ⟨t, hexec.trans ((State.fpSignal_of_no_trap hcu1 hno k).trans hnext), ?_, ?_, hpost⟩
    · exact State.changesOnly_trans (s.changesOnly_setFcr31 _ (.inl rfl)) (State.changesOnly_mono hframe fun _ => .inr)
    · exact hfcr ▸ fcrSignals_addFlags ..

/-- An operation whose causes do not trap completes. -/
theorem completes_of_fpSignals (h : fpSignals i s e w post) (hno : fpTraps s.fcr31 e = false) :
    completes i s (fun p => p = .fcr31 ∨ w p) fun t => fcrSignals s.fcr31 t.fcr31 e ∧ post t := by
  rwa [fpSignals, if_neg (mt (fpTraps_iff ..).2 (Bool.eq_false_iff.1 hno))] at h

/-! ### Writing the result (R430) -/

theorem State.changesOnly_fpWrite (s : State) (f : FpFmt) (fd : FReg) (v : Dword) :
    s.changesOnly (s.fpWrite f fd v) (· = .fpr (s.fprCell fd)) := by
  cases f with
  | single => exact s.changesOnly_setFgr32 fd _
  | double => exact s.changesOnly_setFgr64 fd v

theorem State.writesFp_fpWrite (s : State) (f : FpFmt) (fd : FReg) (v : Dword) :
    s.writesFp (s.fpWrite f fd v) f fd v := by
  cases f with
  | single =>
    rw [State.fpWrite, lo32_eq_setWidth]
    exact s.writes32_setFgr32 fd _
  | double => exact s.fgr64_setFgr64 fd v

/-- The FPRs a write leaves are those of the state before FCR31 was written. -/
theorem State.writes32_of_setFcr31 {g u : Word} {t : State} (h : (s.setFcr31 g).writes32 t fd u) : s.writes32 t fd u :=
  State.writes32_congr rfl rfl h

theorem State.writesFp_of_setFcr31 {f : FpFmt} {g : Word} {t : State} (h : (s.setFcr31 g).writesFp t f fd v) :
    s.writesFp t f fd v := by
  cases f with
  | single => exact State.writes32_of_setFcr31 h
  | double => exact h

/-- An operation on an S or D register signals its answer's causes and writes its answer's value. -/
theorem fpSignals_of_fpOp {f : FpFmt} (hcu1 : s.cu1 = true) (hexec : exec i s = s.fpOp f fd ans)
    (hans : ans = ⟨e, v⟩) : fpSignals i s e (fun p => p = .fpr (s.fprCell fd)) fun t => s.writesFp t f fd v := by
  subst hans
  refine fpSignals_of_exec hcu1 hexec fun g => ⟨_, rfl, State.changesOnly_fpWrite _ f fd v, ?_, ?_⟩
  · cases f <;> rfl
  · exact State.writesFp_of_setFcr31 (State.writesFp_fpWrite _ f fd v)

theorem State.changesOnly_fxWrite (s : State) (dst : FxFmt) (fd : FReg) (v : Dword) :
    s.changesOnly (s.fxWrite dst fd v) (· = .fpr (s.fprCell fd)) := by
  cases dst with
  | word => exact s.changesOnly_setFgr32 fd _
  | long => exact s.changesOnly_setFgr64 fd v

theorem State.writesFx_fxWrite (s : State) (dst : FxFmt) (fd : FReg) (n : ℤ) :
    s.writesFx (s.fxWrite dst fd (BitVec.ofInt 64 n)) dst fd n := by
  cases dst with
  | word =>
    rw [State.fxWrite, lo32_ofInt]
    exact s.writes32_setFgr32 fd _
  | long => exact s.fgr64_setFgr64 fd _

/-- An operation on a W or L register signals its answer's causes and writes its answer's integer. -/
theorem fpSignals_of_fxOp {dst : FxFmt} {n : ℤ} (hcu1 : s.cu1 = true) (hexec : exec i s = s.fxOp dst fd ans)
    (hans : ans = ⟨e, BitVec.ofInt 64 n⟩) :
    fpSignals i s e (fun p => p = .fpr (s.fprCell fd)) fun t => s.writesFx t dst fd n := by
  subst hans
  refine fpSignals_of_exec hcu1 hexec fun g => ⟨_, rfl, State.changesOnly_fxWrite _ dst fd _, ?_, ?_⟩
  · cases dst <;> rfl
  · have hwrite := (s.setFcr31 g).writesFx_fxWrite dst fd n
    cases dst with
    | word => exact State.writes32_of_setFcr31 hwrite
    | long => exact hwrite

/-- What is said of the completed state may be weakened. -/
theorem fpSignals_mono {post' : State → Prop} (h : fpSignals i s e w post) (hpost : ∀ t, post t → post' t) :
    fpSignals i s e w post' := by
  unfold fpSignals at h ⊢
  split at h
  · next htrap => exact (if_pos htrap).mpr h
  · next hno =>
    obtain ⟨t, hexec, hframe, hfcr, ht⟩ := h
    exact (if_neg hno).mpr ⟨t, hexec, hframe, hfcr, hpost t ht⟩

/-! ### The S and D instructions as one operation each (R436 to R443) -/

variable (s) (f : FpFmt) (dst : FxFmt) (mode : Rounding) (fd fs ft : FReg)

theorem exec_addFmt :
    exec (.addFmt f fd fs ft) s = s.fpOp f fd (f.add s.fcr31 (s.fpRead f fs) (s.fpRead f ft)) := by cases f <;> rfl

theorem exec_subFmt :
    exec (.subFmt f fd fs ft) s = s.fpOp f fd (f.sub s.fcr31 (s.fpRead f fs) (s.fpRead f ft)) := by cases f <;> rfl

theorem exec_mulFmt :
    exec (.mulFmt f fd fs ft) s = s.fpOp f fd (f.mul s.fcr31 (s.fpRead f fs) (s.fpRead f ft)) := by cases f <;> rfl

theorem exec_divFmt :
    exec (.divFmt f fd fs ft) s = s.fpOp f fd (f.div s.fcr31 (s.fpRead f fs) (s.fpRead f ft)) := by cases f <;> rfl

theorem exec_sqrtFmt : exec (.sqrtFmt f fd fs) s = s.fpOp f fd (f.sqrt s.fcr31 (s.fpRead f fs)) := by cases f <;> rfl

theorem exec_absFmt : exec (.absFmt f fd fs) s = s.fpOp f fd (f.abs (s.fpRead f fs)) := by cases f <;> rfl

theorem exec_negFmt : exec (.negFmt f fd fs) s = s.fpOp f fd (f.negAnswer (s.fpRead f fs)) := by cases f <;> rfl

theorem exec_movFmt : exec (.movFmt f fd fs) s = s.checkCop1 (.next (s.fpWrite f fd (s.fpRead f fs))) := by
  cases f <;> rfl

theorem exec_toFxFmt :
    exec (.toFxFmt mode dst f fd fs) s = s.fxOp dst fd (toFixed f dst mode (s.fpRead f fs)) := by
  cases mode <;> cases dst <;> cases f <;> rfl

theorem exec_cvtToFxFmt :
    exec (.cvtToFxFmt dst f fd fs) s = s.fxOp dst fd (toFixed f dst (fcrRounding s.fcr31) (s.fpRead f fs)) := by
  cases dst <;> cases f <;> rfl

end Sys2Proof.Machine
end

section
/-!
Proofs/FpuOperands: the patterns of the two formats as numbers (47_fpu_arith R430, R433): the fields of a pattern, the
class of each kind of operand, and a normal operand as a signed integer times a power of two.
-/

namespace Sys2Proof.Machine

/-! ### A sign and a magnitude -/

/-- The number of a sign and a magnitude, in any ordered field or in the integers. -/
def withSign {α : Type} [Neg α] (neg : Bool) (x : α) : α := if neg then -x else x

section Sign

variable {α : Type} {neg : Bool}

@[simp] theorem withSign_true [Neg α] (x : α) : withSign true x = -x := rfl

@[simp] theorem withSign_false [Neg α] (x : α) : withSign false x = x := rfl

theorem signedInt_eq_withSign (neg : Bool) (m : ℕ) : signedInt neg m = withSign neg (m : ℤ) := rfl

theorem withSign_mul [Ring α] (neg : Bool) (x y : α) : withSign neg (x * y) = withSign neg x * y := by
  cases neg <;> simp

theorem withSign_div [DivisionRing α] (neg : Bool) (x y : α) : withSign neg (x / y) = withSign neg x / y := by
  rw [div_eq_mul_inv, div_eq_mul_inv, withSign_mul]

/-- A product has the sign that its factors' signs make. -/
theorem withSign_bne_mul [Ring α] (m n : Bool) (x y : α) : withSign (m != n) (x * y) = withSign m x * withSign n y := by
  cases m <;> cases n <;> simp

theorem withSign_bne_div [Field α] (m n : Bool) (x y : α) :
    withSign (m != n) (x / y) = withSign m x / withSign n y := by
  cases m <;> cases n <;> simp [neg_div, div_neg]

theorem withSign_not [AddGroup α] (neg : Bool) (x : α) : withSign (!neg) x = -withSign neg x := by
  cases neg <;> simp

theorem abs_withSign [AddCommGroup α] [LinearOrder α] (neg : Bool) (x : α) : |withSign neg x| = |x| := by
  cases neg <;> simp

theorem withSign_lt_zero [AddCommGroup α] [LinearOrder α] [IsOrderedAddMonoid α] {x : α} (hx : 0 < x) :
    withSign neg x < 0 ↔ neg = true := by
  cases neg <;> simp [hx, hx.le]

theorem withSign_eq_zero [AddGroup α] {x : α} : withSign neg x = 0 ↔ x = 0 := by
  cases neg <;> simp

theorem cast_withSign_real (neg : Bool) (x : ℚ) : ((withSign neg x : ℚ) : ℝ) = withSign neg (x : ℝ) := by
  cases neg <;> simp

theorem cast_withSign_int [Ring α] (neg : Bool) (n : ℤ) : ((withSign neg n : ℤ) : α) = withSign neg (n : α) := by
  cases neg <;> simp

theorem cast_signedInt (neg : Bool) (n : ℕ) : ((signedInt neg n : ℤ) : ℝ) = withSign neg (n : ℝ) := by
  rw [signedInt_eq_withSign, cast_withSign_int, Int.cast_natCast]

/-- An integer is its sign and its magnitude. -/
theorem withSign_natAbs (n : ℤ) : withSign (decide (n < 0)) (n.natAbs : ℤ) = n := by
  rcases lt_or_ge n 0 with h | h
  · rw [decide_eq_true h, withSign_true]
    omega
  · rw [decide_eq_false h.not_gt, withSign_false]
    omega

end Sign

/-! ### The constants of a format -/

variable {f g : FpFmt} {v : Dword} {neg : Bool} {E F : ℕ}

theorem FpFmt.emin_eq (f : FpFmt) : f.emin = 1 - f.bias := by cases f <;> rfl

theorem FpFmt.top_eq (f : FpFmt) : f.top = f.bias + 1 := by cases f <;> rfl

theorem FpFmt.precision_eq (f : FpFmt) : f.precision = f.frac + 1 := by cases f <;> rfl

/-- The exponent field of all ones is one above that of the largest finite value. -/
theorem FpFmt.bias_eq (f : FpFmt) : 2 * f.bias + 2 = ((2 ^ f.expBits : ℕ) : ℤ) := by cases f <;> rfl

theorem FpFmt.expOnes_ne_zero (f : FpFmt) : 2 ^ f.expBits - 1 ≠ 0 := by cases f <;> decide

/-! ### The fields of a pattern -/

/-- The pattern of a sign, an exponent field and a fraction field. -/
def FpFmt.pattern (f : FpFmt) (neg : Bool) (E F : ℕ) : Dword := BitVec.ofNat 64 (f.signBit neg + E * 2 ^ f.frac + F)

theorem FpFmt.zero_eq_pattern (f : FpFmt) (neg : Bool) : f.zero neg = f.pattern neg 0 0 := by
  simp [FpFmt.zero, FpFmt.pattern]

theorem FpFmt.inf_eq_pattern (f : FpFmt) (neg : Bool) : f.inf neg = f.pattern neg (2 ^ f.expBits - 1) 0 := rfl

theorem FpFmt.neg_eq_decide (f : FpFmt) (v : Dword) : f.neg v = decide (v.toNat / 2 ^ (f.frac + f.expBits) % 2 = 1) :=
  Nat.testBit_eq_decide_div_mod_eq

theorem FpFmt.expField_lt (f : FpFmt) (v : Dword) : f.expField v < 2 ^ f.expBits := Nat.mod_lt _ (by positivity)

theorem FpFmt.fracField_lt (f : FpFmt) (v : Dword) : f.fracField v < 2 ^ f.frac := Nat.mod_lt _ (by positivity)

theorem FpFmt.pattern_toNat (hE : E < 2 ^ f.expBits) (hF : F < 2 ^ f.frac) :
    (f.pattern neg E F).toNat = f.signBit neg + E * 2 ^ f.frac + F := by
  rw [FpFmt.pattern, BitVec.toNat_ofNat, Nat.mod_eq_of_lt]
  cases f <;> cases neg <;> simp [FpFmt.signBit, FpFmt.frac, FpFmt.expBits] at * <;> omega

theorem FpFmt.fracField_pattern (hE : E < 2 ^ f.expBits) (hF : F < 2 ^ f.frac) :
    f.fracField (f.pattern neg E F) = F := by
  rw [FpFmt.fracField, FpFmt.pattern_toNat hE hF]
  cases f <;> cases neg <;> simp [FpFmt.signBit, FpFmt.frac, FpFmt.expBits] at * <;> omega

theorem FpFmt.expField_pattern (hE : E < 2 ^ f.expBits) (hF : F < 2 ^ f.frac) :
    f.expField (f.pattern neg E F) = E := by
  rw [FpFmt.expField, FpFmt.pattern_toNat hE hF]
  cases f <;> cases neg <;> simp [FpFmt.signBit, FpFmt.frac, FpFmt.expBits] at * <;> omega

theorem FpFmt.neg_pattern (hE : E < 2 ^ f.expBits) (hF : F < 2 ^ f.frac) : f.neg (f.pattern neg E F) = neg := by
  rw [FpFmt.neg_eq_decide, FpFmt.pattern_toNat hE hF]
  cases f <;> cases neg <;> simp [FpFmt.signBit, FpFmt.frac, FpFmt.expBits] at * <;> omega

/-- A pattern is made of its fields, when nothing stands above its sign bit. -/
theorem FpFmt.pattern_of_fields (hv : v.toNat < 2 ^ (f.frac + f.expBits + 1)) :
    f.pattern (f.neg v) (f.expField v) (f.fracField v) = v := by
  apply BitVec.eq_of_toNat_eq
  rw [FpFmt.pattern_toNat (f.expField_lt v) (f.fracField_lt v), FpFmt.neg_eq_decide, FpFmt.expField, FpFmt.fracField,
    FpFmt.signBit]
  simp only [decide_eq_true_eq]
  split <;> cases f <;> simp [FpFmt.frac, FpFmt.expBits] at * <;> omega

/-- Nothing stands above the sign bit of an operand that was read. -/
theorem State.fpRead_toNat_lt (s : State) (f : FpFmt) (i : FReg) :
    (s.fpRead f i).toNat < 2 ^ (f.frac + f.expBits + 1) := by
  cases f with
  | single =>
    rw [State.fpRead, zext64, BitVec.toNat_setWidth]
    exact (Nat.mod_le _ _).trans_lt (s.fgr32 i).isLt
  | double => exact (s.fgr64 i).isLt

/-! ### The classes of operands (R433) -/

theorem FpFmt.classify_of_isNormal (h : f.isNormal v) :
    f.classify v = .normal (f.neg v) (2 ^ f.frac + f.fracField v) (f.expField v - f.bias - f.frac) := by
  rw [FpFmt.classify, if_neg h.2.ne, if_neg h.1.ne']

theorem FpFmt.classify_of_isZero (h : f.isZero v) : f.classify v = .zero (f.neg v) := by
  rw [FpFmt.classify, if_neg (h.1 ▸ f.expOnes_ne_zero.symm), if_pos h.1, if_pos h.2]

theorem FpFmt.classify_of_isSubnormal (h : f.isSubnormal v) : f.classify v = .subnormal (f.neg v) := by
  rw [FpFmt.classify, if_neg (h.1 ▸ f.expOnes_ne_zero.symm), if_pos h.1, if_neg h.2]

theorem FpFmt.classify_of_isInf (h : f.isInf v) : f.classify v = .inf (f.neg v) := by
  rw [FpFmt.classify, if_pos h.1, if_pos h.2]

theorem FpFmt.classify_of_isQNaN (h : f.isQNaN v) : f.classify v = .qnan := by
  rw [FpFmt.classify, if_pos h.1, if_neg h.2.1, if_pos h.2.2]

theorem FpFmt.classify_of_isSNaN (h : f.isSNaN v) : f.classify v = .snan := by
  have hne : f.fracField v ≠ 0 := (lt_of_lt_of_le (Nat.two_pow_pos _) h.2).ne'
  rw [FpFmt.classify, if_pos h.1, if_neg hne, if_neg h.2.not_gt]

/-! ### The sign inverted (R437, R443) -/

theorem FpFmt.negate_eq (f : FpFmt) (v : Dword) : f.negate v = v ^^^ BitVec.twoPow 64 (f.frac + f.expBits) := by
  cases f <;> rfl

theorem FpFmt.fracField_eq_extract (f : FpFmt) (v : Dword) : f.fracField v = (v.extractLsb' 0 f.frac).toNat := by
  rw [FpFmt.fracField, BitVec.extractLsb'_toNat, Nat.shiftRight_zero]

theorem FpFmt.expField_eq_extract (f : FpFmt) (v : Dword) : f.expField v = (v.extractLsb' f.frac f.expBits).toNat := by
  rw [FpFmt.expField, BitVec.extractLsb'_toNat, Nat.shiftRight_eq_div_pow]

@[simp] theorem FpFmt.fracField_negate (f : FpFmt) (v : Dword) : f.fracField (f.negate v) = f.fracField v := by
  have h : (BitVec.twoPow 64 (f.frac + f.expBits)).extractLsb' 0 f.frac = 0#f.frac := by cases f <;> decide
  rw [FpFmt.fracField_eq_extract, FpFmt.negate_eq, BitVec.extractLsb'_xor, h, BitVec.xor_zero,
    ← FpFmt.fracField_eq_extract]

@[simp] theorem FpFmt.expField_negate (f : FpFmt) (v : Dword) : f.expField (f.negate v) = f.expField v := by
  have h : (BitVec.twoPow 64 (f.frac + f.expBits)).extractLsb' f.frac f.expBits = 0#f.expBits := by cases f <;> decide
  rw [FpFmt.expField_eq_extract, FpFmt.negate_eq, BitVec.extractLsb'_xor, h, BitVec.xor_zero,
    ← FpFmt.expField_eq_extract]

@[simp] theorem FpFmt.neg_negate (f : FpFmt) (v : Dword) : f.neg (f.negate v) = !f.neg v := by
  have h : (BitVec.twoPow 64 (f.frac + f.expBits)).getLsbD (f.frac + f.expBits) = true := by cases f <;> decide
  rw [FpFmt.neg, FpFmt.negate_eq, BitVec.getLsbD_xor, h, Bool.xor_true, ← FpFmt.neg]

theorem FpFmt.number_eq_withSign (f : FpFmt) (v : Dword) : f.number v = withSign (f.neg v)
    ((((if f.expField v = 0 then 0 else 2 ^ f.frac) + f.fracField v : ℕ) : ℚ)
      * 2 ^ ((max (f.expField v) 1 : ℕ) - f.bias - f.frac : ℤ)) := by
  rw [FpFmt.number, mul_assoc]
  cases f.neg v with
  | true => exact neg_one_mul _
  | false => exact one_mul _

theorem FpFmt.number_negate (f : FpFmt) (v : Dword) : f.number (f.negate v) = -f.number v := by
  rw [FpFmt.number_eq_withSign, FpFmt.expField_negate, FpFmt.fracField_negate, FpFmt.neg_negate, withSign_not,
    ← FpFmt.number_eq_withSign]

/-! ### Operands as numbers (R430) -/

theorem FpFmt.number_of_isZero (h : f.isZero v) : f.number v = 0 := by
  rw [FpFmt.number, if_pos h.1, h.2]
  simp

/-- A normal operand `v` is the integer `m`, of as many bits as the format has, times `2 ^ e`. -/
structure FpFmt.NormalAs (f : FpFmt) (v : Dword) (m : ℕ) (e : ℤ) : Prop where
  classify : f.classify v = .normal (f.neg v) m e
  number : f.number v = withSign (f.neg v) ((m : ℚ) * 2 ^ e)
  lower : 2 ^ f.frac ≤ m
  upper : m < 2 ^ (f.frac + 1)
  emin : f.emin ≤ e + f.frac
  bias : e + f.frac ≤ f.bias

theorem FpFmt.normalAs_of_isNormal (h : f.isNormal v) :
    f.NormalAs v (2 ^ f.frac + f.fracField v) (f.expField v - f.bias - f.frac) where
  classify := FpFmt.classify_of_isNormal h
  number := by
    rw [FpFmt.number_eq_withSign, if_neg h.1.ne', max_eq_left (Nat.one_le_iff_ne_zero.2 h.1.ne')]
  lower := Nat.le_add_right ..
  upper := by
    have := f.fracField_lt v
    omega
  emin := by
    have := f.emin_eq
    omega
  bias := by
    have := f.bias_eq
    have := h.2
    omega

theorem FpFmt.NormalAs.pos {m : ℕ} {e : ℤ} (h : f.NormalAs v m e) : 0 < m :=
  lt_of_lt_of_le (Nat.two_pow_pos _) h.lower

theorem FpFmt.NormalAs.real {m : ℕ} {e : ℤ} (h : f.NormalAs v m e) :
    ((f.number v : ℚ) : ℝ) = withSign (f.neg v) ((m : ℝ) * 2 ^ e) := by
  rw [h.number, cast_withSign_real]
  push_cast
  rfl

theorem FpFmt.NormalAs.number_ne_zero {m : ℕ} {e : ℤ} (h : f.NormalAs v m e) : f.number v ≠ 0 := by
  rw [h.number, ne_eq, withSign_eq_zero]
  have := h.pos
  positivity

/-! ### Packed results (R434) -/

theorem FpFmt.isNormal_pattern (h0 : 0 < E) (hE : E < 2 ^ f.expBits - 1) (hF : F < 2 ^ f.frac) :
    f.isNormal (f.pattern neg E F) := by
  rw [FpFmt.isNormal, FpFmt.expField_pattern (by omega) hF]
  exact ⟨h0, hE⟩

theorem FpFmt.number_pattern (h0 : 0 < E) (hE : E < 2 ^ f.expBits - 1) (hF : F < 2 ^ f.frac) :
    f.number (f.pattern neg E F) = withSign neg (((2 ^ f.frac + F : ℕ) : ℚ) * 2 ^ (E - f.bias - f.frac : ℤ)) := by
  have h := (FpFmt.normalAs_of_isNormal (FpFmt.isNormal_pattern (neg := neg) h0 hE hF)).number
  rwa [FpFmt.fracField_pattern (by omega) hF, FpFmt.expField_pattern (by omega) hF,
    FpFmt.neg_pattern (by omega) hF] at h

/-- The carry of a significand of all ones goes into the exponent field. -/
theorem FpFmt.pack_eq_pattern {k : ℕ} {q : ℤ} (hlow : 2 ^ f.frac ≤ k) (hq : f.emin ≤ q + f.frac) :
    f.pack neg k q = if k = 2 ^ (f.frac + 1) then f.pattern neg ((q + f.frac + f.bias).toNat + 1) 0
      else f.pattern neg (q + f.frac + f.bias).toNat (k - 2 ^ f.frac) := by
  have hE : (q + f.frac + f.bias).toNat = (q + f.frac + f.bias - 1).toNat + 1 := by
    have := f.emin_eq
    omega
  rw [hE, FpFmt.pack]
  generalize (q + f.frac + f.bias - 1).toNat = E
  split
  · next hk =>
    rw [FpFmt.pattern, hk, pow_succ]
    congr 1
    ring
  · rw [FpFmt.pattern, Nat.succ_mul E]
    congr 1
    omega

/-- What a packed significand stands for. -/
theorem FpFmt.normal_pack {k : ℕ} {q : ℤ} (hlow : 2 ^ f.frac ≤ k) (hhigh : k ≤ 2 ^ (f.frac + 1))
    (hq : f.emin ≤ q + f.frac) (htop : q + f.frac ≤ f.bias) (hcarry : q + f.frac = f.bias → k ≠ 2 ^ (f.frac + 1)) :
    f.isNormal (f.pack neg k q) ∧ f.neg (f.pack neg k q) = neg
      ∧ f.number (f.pack neg k q) = withSign neg ((k : ℚ) * 2 ^ q) := by
  have hemin := f.emin_eq
  have hbias := f.bias_eq
  rw [FpFmt.pack_eq_pattern hlow hq]
  split
  · next hk =>
    have hE0 : 0 < (q + f.frac + f.bias).toNat + 1 := by omega
    have hE : (q + f.frac + f.bias).toNat + 1 < 2 ^ f.expBits - 1 := by omega
    refine ⟨FpFmt.isNormal_pattern hE0 hE (Nat.two_pow_pos _), FpFmt.neg_pattern (by omega) (Nat.two_pow_pos _), ?_⟩
    rw [FpFmt.number_pattern hE0 hE (Nat.two_pow_pos _), hk]
    have hexp : (((q + f.frac + f.bias).toNat + 1 : ℕ) : ℤ) - f.bias - f.frac = q + 1 := by omega
    rw [hexp, zpow_add_one₀ two_ne_zero]
    push_cast
    ring_nf
  · have hE0 : 0 < (q + f.frac + f.bias).toNat := by omega
    have hE : (q + f.frac + f.bias).toNat < 2 ^ f.expBits - 1 := by omega
    have hF : k - 2 ^ f.frac < 2 ^ f.frac := by omega
    refine ⟨FpFmt.isNormal_pattern hE0 hE hF, FpFmt.neg_pattern (by omega) hF, ?_⟩
    rw [FpFmt.number_pattern hE0 hE hF, Nat.add_sub_cancel' hlow]
    congr 3
    omega

end Sys2Proof.Machine
end

section
/-!
Proofs/FpuRounding: a result is rounded once (47_fpu_arith R431, R434). The rounding of a magnitude is proved against
`RoundsTo`, the integer nearest a real number in a mode's direction; conversion to fixed point uses it as it stands, and
a floating-point result is the same with the unit scaled. `finish_answers` then says that CheckOutput answers every
exact result.
-/

namespace Sys2Proof.Machine

/-! ### Rounding to an integer -/

/-- `k` is the integer nearest the real `x` in the direction of the mode. -/
def RoundsTo (mode : Rounding) (x : ℝ) (k : ℤ) : Prop :=
  match mode with
  | .rn => |x - k| ≤ 1 / 2 ∧ (|x - k| = 1 / 2 → k % 2 = 0)
  | .rz => |(k : ℝ)| ≤ |x| ∧ |x - k| < 1
  | .rp => x ≤ k ∧ k - x < 1
  | .rm => k ≤ x ∧ x - k < 1

variable {mode : Rounding} {x : ℝ} {k : ℤ} {neg rest : Bool} {low rem half mant : ℕ} {exp q : ℤ}

theorem roundedToInt_iff (mode : Rounding) (x : ℚ) (k : ℤ) : roundedToInt mode x k ↔ RoundsTo mode x k := by
  have hhalf : ((1 / 2 : ℚ) : ℝ) = 1 / 2 := by norm_num
  cases mode with
  | rn =>
    rw [roundedToInt, RoundsTo, ← hhalf]
    norm_cast
  | rz | rp | rm =>
    simp only [roundedToInt, RoundsTo]
    norm_cast

theorem roundsTo_self (mode : Rounding) (k : ℤ) : RoundsTo mode k k := by
  cases mode <;> norm_num [RoundsTo]

/-- Rounding moves a number by less than 1. -/
theorem RoundsTo.abs_sub_lt (h : RoundsTo mode x k) : |x - k| < 1 := by
  cases mode with
  | rn => exact h.1.trans_lt (by norm_num)
  | rz => exact h.2
  | rp => exact abs_sub_lt_iff.2 ⟨by linarith [h.1], h.2⟩
  | rm => exact abs_sub_lt_iff.2 ⟨h.2, by linarith [h.1]⟩

/-- Of two roundings of one number, the first is not the smaller. -/
theorem RoundsTo.le_of_roundsTo {l : ℤ} (hk : RoundsTo mode x k) (hl : RoundsTo mode x l) : l ≤ k := by
  by_contra hlt
  have hstep : (k : ℝ) + 1 ≤ l := by exact_mod_cast not_le.1 hlt
  have hk' := abs_sub_lt_iff.1 hk.abs_sub_lt
  have hl' := abs_sub_lt_iff.1 hl.abs_sub_lt
  cases mode with
  | rn =>
    obtain ⟨hkd, hktie⟩ := hk
    obtain ⟨hld, hltie⟩ := hl
    have hxk := (abs_le.1 hkd).2
    have hxl := (abs_le.1 hld).1
    have heven := hktie (by rw [abs_of_nonneg] <;> linarith)
    have heven' := hltie (by rw [abs_of_nonpos] <;> linarith)
    have hnext : l = k + 1 := by exact_mod_cast (show (l : ℝ) = k + 1 by linarith)
    omega
  | rz =>
    rcases le_or_gt 0 x with hx | hx
    · have := (le_abs_self (l : ℝ)).trans hl.1
      rw [abs_of_nonneg hx] at this
      linarith [hk'.1]
    · have := (neg_abs_le (k : ℝ))
      have := hk.1
      rw [abs_of_neg hx] at this
      linarith [hl'.2]
  | rp => linarith [hk.1, hl.2]
  | rm => linarith [hk.2, hl.1]

/-- A number has one rounding in a mode. -/
theorem roundedToInt_unique {y : ℚ} {l : ℤ} (hk : roundedToInt mode y k) (hl : roundedToInt mode y l) : k = l := by
  rw [roundedToInt_iff] at hk hl
  exact le_antisymm (hl.le_of_roundsTo hk) (hk.le_of_roundsTo hl)

/-- The rounding of a magnitude between two integers is between them. -/
theorem RoundsTo.natAbs_bounds {a b : ℕ} (h : RoundsTo mode x k) (ha : (a : ℝ) ≤ |x|) (hb : |x| ≤ b) :
    a ≤ k.natAbs ∧ k.natAbs ≤ b := by
  have hdist := (abs_abs_sub_abs_le x k).trans_lt h.abs_sub_lt
  rw [← Int.cast_abs, ← Int.natCast_natAbs, Int.cast_natCast, abs_sub_lt_iff] at hdist
  obtain ⟨hup, hdown⟩ := hdist
  constructor
  · have : (a : ℝ) < (k.natAbs + 1 : ℕ) := by push_cast; linarith
    exact Nat.lt_succ_iff.1 (Nat.cast_lt.1 this)
  · have : (k.natAbs : ℝ) < (b + 1 : ℕ) := by push_cast; linarith
    exact Nat.lt_succ_iff.1 (Nat.cast_lt.1 this)

/-- When a magnitude that lies `θ` above a whole number rounds up (R431). -/
def Rounding.up (mode : Rounding) (neg : Bool) (low : ℕ) (θ : ℝ) : Prop :=
  match mode with
  | .rn => 1 / 2 < θ ∨ θ = 1 / 2 ∧ low % 2 = 1
  | .rz => False
  | .rp => neg = false ∧ 0 < θ
  | .rm => neg = true ∧ 0 < θ

/-- Truncation of a magnitude. -/
theorem truncated_bounds {θ : ℝ} (h0 : 0 ≤ θ) (h1 : θ < 1) {up : Bool} (hup : up = false) :
    ((if up then low + 1 else low : ℕ) : ℝ) ≤ low + θ ∧ low + θ - (if up then low + 1 else low : ℕ) < 1 := by
  rw [hup, if_neg Bool.false_ne_true]
  exact ⟨by linarith, by linarith⟩

/-- Rounding of a magnitude away from zero. -/
theorem away_bounds {θ : ℝ} (h0 : 0 ≤ θ) (h1 : θ < 1) {up : Bool} (hup : up = true ↔ 0 < θ) :
    (low + θ : ℝ) ≤ (if up then low + 1 else low : ℕ) ∧ (if up then low + 1 else low : ℕ) - (low + θ : ℝ) < 1 := by
  cases up with
  | true =>
    have := hup.1 rfl
    rw [if_pos rfl, Nat.cast_add_one]
    exact ⟨by linarith, by linarith⟩
  | false =>
    have := not_lt.1 (mt hup.2 Bool.false_ne_true)
    rw [if_neg Bool.false_ne_true]
    exact ⟨by linarith, by linarith⟩

/-- Rounding of a magnitude to the nearest whole number, ties to the even one. -/
theorem nearest_bounds {θ : ℝ} (h0 : 0 ≤ θ) (h1 : θ < 1) {up : Bool}
    (hup : up = true ↔ 1 / 2 < θ ∨ θ = 1 / 2 ∧ low % 2 = 1) :
    |low + θ - (if up then low + 1 else low : ℕ)| ≤ 1 / 2
      ∧ (|low + θ - (if up then low + 1 else low : ℕ)| = 1 / 2 → (if up then low + 1 else low) % 2 = 0) := by
  cases up with
  | false =>
    obtain ⟨hle, htie⟩ : θ ≤ 1 / 2 ∧ (θ = 1 / 2 → low % 2 ≠ 1) := by simpa using hup
    rw [if_neg Bool.false_ne_true, add_sub_cancel_left, abs_of_nonneg h0]
    exact ⟨hle, fun h => Nat.mod_two_ne_one.1 (htie h)⟩
  | true =>
    rw [if_pos rfl, Nat.cast_add_one, add_sub_add_left_eq_sub, abs_of_nonpos (by linarith)]
    obtain hgt | ⟨heq, hodd⟩ := hup.1 rfl
    · exact ⟨by linarith, fun h => by linarith⟩
    · exact ⟨by linarith, fun _ => by omega⟩

/-- Rounding the magnitude up when the rule says so is rounding the number: the modes toward an infinity truncate one
sign and round the other away from zero. -/
theorem roundsTo_of_up {θ : ℝ} (h0 : 0 ≤ θ) (h1 : θ < 1) {up : Bool} (hup : up = true ↔ mode.up neg low θ) :
    RoundsTo mode (withSign neg (low + θ)) (signedInt neg (if up then low + 1 else low)) := by
  have hdist : ∀ n : ℕ, withSign neg (low + θ) - withSign neg (n : ℝ) = withSign neg (low + θ - n) := fun n => by
    cases neg with
    | false => rfl
    | true => exact (neg_sub_neg _ _).trans (neg_sub _ _).symm
  have hnever : ¬ mode.up neg low θ → up = false := fun h => Bool.eq_false_iff.2 (mt hup.1 h)
  cases mode with
  | rn =>
    obtain ⟨hle, heven⟩ := nearest_bounds h0 h1 hup
    rw [RoundsTo, cast_signedInt, hdist, abs_withSign]
    refine ⟨hle, fun h => ?_⟩
    have := heven h
    cases neg <;> simp only [signedInt] <;> omega
  | rz =>
    obtain ⟨hle, hlt⟩ := truncated_bounds (low := low) h0 h1 (hnever not_false)
    have hn := Nat.cast_nonneg (α := ℝ) (if up then low + 1 else low)
    simp only [RoundsTo, cast_signedInt, hdist, abs_withSign]
    rw [abs_of_nonneg hn, abs_of_nonneg (hn.trans hle), abs_of_nonneg (sub_nonneg.2 hle)]
    exact ⟨hle, hlt⟩
  | rp =>
    rw [RoundsTo, cast_signedInt]
    cases neg with
    | false => exact away_bounds h0 h1 (by simpa [Rounding.up] using hup)
    | true =>
      obtain ⟨hle, hlt⟩ := truncated_bounds (low := low) h0 h1 (hnever fun h => Bool.noConfusion h.1)
      exact ⟨neg_le_neg hle, by rwa [withSign_true, withSign_true, neg_sub_neg]⟩
  | rm =>
    rw [RoundsTo, cast_signedInt]
    cases neg with
    | false => exact truncated_bounds h0 h1 (hnever fun h => Bool.noConfusion h.1)
    | true =>
      obtain ⟨hle, hlt⟩ := away_bounds (low := low) h0 h1 (up := up) (by simpa [Rounding.up] using hup)
      exact ⟨neg_le_neg hle, by rwa [withSign_true, withSign_true, neg_sub_neg]⟩

/-- Something lies above the whole units when the remainder, or what is below it, is not 0. -/
theorem fraction_pos_iff {δ θ : ℝ} (hhalf : 0 < half) (h0 : 0 ≤ δ) (hrest : rest = true ↔ δ ≠ 0)
    (hθ : 2 * half * θ = rem + δ) : 0 < θ ↔ rem ≠ 0 ∨ rest = true := by
  have hunit : (0 : ℝ) < half := by exact_mod_cast hhalf
  rw [← mul_pos_iff_of_pos_left (mul_pos two_pos hunit), hθ, hrest]
  rcases Nat.eq_zero_or_pos rem with rfl | hrem
  · simp [lt_iff_le_and_ne, h0, eq_comm]
  · have : (0 : ℝ) < rem := by exact_mod_cast hrem
    simp [hrem.ne', add_pos_of_pos_of_nonneg this h0]

/-- The model's test is the rule, with the part above `low` measured in units of `2 * half`. -/
theorem roundsUp_iff {δ θ : ℝ} (hhalf : 0 < half) (h0 : 0 ≤ δ) (h1 : δ < 1) (hrest : rest = true ↔ δ ≠ 0)
    (hθ : 2 * half * θ = rem + δ) : roundsUp mode neg low rem half rest = true ↔ mode.up neg low θ := by
  have hunit : (0 : ℝ) < half := by exact_mod_cast hhalf
  have hpos := fraction_pos_iff hhalf h0 hrest hθ
  have hnearest : (1 / 2 < θ ↔ half < rem ∨ rem = half ∧ rest = true)
      ∧ (θ = 1 / 2 ↔ rem = half ∧ ¬ rest = true) := by
    rw [← mul_lt_mul_iff_right₀ (mul_pos two_pos hunit), ← mul_right_inj' (mul_pos two_pos hunit).ne', hθ, hrest]
    rcases lt_trichotomy half rem with hlt | rfl | hlt
    · have : (half : ℝ) < rem := by exact_mod_cast hlt
      exact ⟨⟨fun _ => .inl hlt, fun _ => by linarith⟩, fun h => by linarith, fun h => absurd h.1 hlt.ne'⟩
    · rw [show 2 * (half : ℝ) * (1 / 2) = half by ring, lt_add_iff_pos_right, add_eq_left]
      simp [lt_iff_le_and_ne, h0, eq_comm]
    · have : (rem : ℝ) + 1 ≤ half := by exact_mod_cast hlt
      exact ⟨⟨fun h => by linarith, fun h => by omega⟩, fun h => by linarith, fun h => absurd h.1 hlt.ne⟩
  cases mode with
  | rz => simp [roundsUp, Rounding.up]
  | rp => simp [roundsUp, Rounding.up, hpos]
  | rm => simp [roundsUp, Rounding.up, hpos]
  | rn =>
    rw [Rounding.up, hnearest.1, hnearest.2]
    simp only [roundsUp, Bool.or_eq_true, Bool.and_eq_true, decide_eq_true_eq, beq_iff_eq]
    cases rest <;> simp

/-- The magnitude `m` is `mant * 2 ^ exp`, and something smaller than `2 ^ exp` above it exactly when `rest`. -/
structure Magnitude (mant : ℕ) (exp : ℤ) (rest : Bool) (m : ℝ) : Prop where
  lower : mant * (2 : ℝ) ^ exp ≤ m
  upper : m < (mant + 1) * (2 : ℝ) ^ exp
  rest : rest = true ↔ m ≠ mant * (2 : ℝ) ^ exp

theorem magnitude_exact (mant : ℕ) (exp : ℤ) : Magnitude mant exp false (mant * (2 : ℝ) ^ exp) where
  lower := le_rfl
  upper := by
    have : (0 : ℝ) < 2 ^ exp := by positivity
    linarith
  rest := by simp

/-- What rounds up is not whole. -/
theorem Rounding.up_pos {θ : ℝ} (h : mode.up neg low θ) : 0 < θ := by
  cases mode with
  | rn => rcases h with h | ⟨h, -⟩ <;> linarith
  | rz => exact h.elim
  | rp | rm => exact h.2

/-- Rounding leaves a magnitude that is whole, and only such a one. -/
theorem rounded_eq_iff {θ : ℝ} (h0 : 0 ≤ θ) (h1 : θ < 1) {up : Bool} (hup : up = true → 0 < θ) :
    (low : ℝ) + θ = (if up then low + 1 else low : ℕ) ↔ ¬ 0 < θ := by
  cases up with
  | true =>
    have := hup rfl
    simp [h1.ne, this]
  | false => rw [if_neg Bool.false_ne_true, add_eq_left, not_lt, le_antisymm_iff, and_iff_left h0]

/-- Rounding to a coarser unit splits the magnitude into whole units and a remainder. -/
theorem roundTo_of_lt {d : ℕ} (hq : q = exp + (d + 1)) : roundTo mode neg mant exp rest q =
    (if roundsUp mode neg (mant / (2 * 2 ^ d)) (mant % (2 * 2 ^ d)) (2 ^ d) rest then mant / (2 * 2 ^ d) + 1
      else mant / (2 * 2 ^ d), mant % (2 * 2 ^ d) != 0 || rest) := by
  have hunit : 2 ^ (q - exp).toNat = 2 * 2 ^ d := by rw [show (q - exp).toNat = d + 1 by omega, pow_succ']
  have hhalf : 2 * 2 ^ d / 2 = 2 ^ d := Nat.mul_div_cancel_left _ two_pos
  simp only [roundTo, if_pos (show exp < q by omega), hunit, hhalf]

theorem roundTo_of_le (hq : q ≤ exp) : roundTo mode neg mant exp rest q = (mant * 2 ^ (exp - q).toNat, rest) :=
  if_neg hq.not_gt

/-- Rounding to a coarser unit keeps the whole units and rounds what lies above them. -/
theorem roundTo_spec_of_lt {m : ℝ} (hm : Magnitude mant exp rest m) {d : ℕ} (hq : q = exp + (d + 1)) (mode : Rounding)
    (neg : Bool) : RoundsTo mode (withSign neg (m / 2 ^ q)) (signedInt neg (roundTo mode neg mant exp rest q).1)
      ∧ ((roundTo mode neg mant exp rest q).2 = true ↔ m / 2 ^ q ≠ (roundTo mode neg mant exp rest q).1) := by
  obtain ⟨hlower, hupper, hrest⟩ := hm
  rw [roundTo_of_lt hq]
  have hhalf : 0 < 2 ^ d := Nat.two_pow_pos d
  have hdiv := Nat.div_add_mod mant (2 * 2 ^ d)
  have hlt := Nat.mod_lt mant (Nat.mul_pos two_pos hhalf)
  have hexp : (0 : ℝ) < 2 ^ exp := by positivity
  have hscale : 2 * (2 ^ d : ℕ) * (m / 2 ^ q) = m / 2 ^ exp := by
    rw [hq, zpow_add₀ two_ne_zero, zpow_add_one₀ two_ne_zero, zpow_natCast]
    push_cast
    field_simp
  generalize mant / (2 * 2 ^ d) = low at *
  generalize mant % (2 * 2 ^ d) = rem at *
  generalize 2 ^ d = half at *
  have hmant : (2 * half * low + rem : ℝ) = mant := by exact_mod_cast hdiv
  have hrem : (rem : ℝ) + 1 ≤ 2 * half := by exact_mod_cast hlt
  have hunit : (0 : ℝ) < 2 * half := by positivity
  have hδ0 : 0 ≤ m / 2 ^ exp - mant := sub_nonneg.2 ((le_div_iff₀ hexp).2 hlower)
  have hδ1 : m / 2 ^ exp - mant < 1 := by linarith [(div_lt_iff₀ hexp).2 hupper]
  have hδ : rest = true ↔ m / 2 ^ exp - mant ≠ 0 := by rw [hrest, sub_ne_zero, ne_eq, ne_eq, div_eq_iff hexp.ne']
  have hθ : 2 * half * (m / 2 ^ q - low) = rem + (m / 2 ^ exp - mant) := by linarith
  have hθ0 : 0 ≤ m / 2 ^ q - low := nonneg_of_mul_nonneg_right (by rw [hθ]; positivity) hunit
  have hθ1 : m / 2 ^ q - low < 1 := (mul_lt_mul_iff_right₀ hunit).1 (by linarith)
  have hup := roundsUp_iff (mode := mode) (neg := neg) (low := low) hhalf hδ0 hδ1 hδ hθ
  have hsum : (low : ℝ) + (m / 2 ^ q - low) = m / 2 ^ q := add_sub_cancel ..
  constructor
  · rw [← hsum]
    exact roundsTo_of_up hθ0 hθ1 hup
  · have hwhole := rounded_eq_iff (low := low) hθ0 hθ1 fun h => Rounding.up_pos (hup.1 h)
    rw [hsum] at hwhole
    rw [ne_eq, hwhole, not_not, fraction_pos_iff hhalf hδ0 hδ hθ, Bool.or_eq_true, bne_iff_ne]

/-- Rounding a magnitude to a multiple of `2 ^ q` rounds the number to an integer in that unit, and says whether it
moved it. -/
theorem roundTo_spec {m : ℝ} (hm : Magnitude mant exp rest m) (hq : rest = true → exp < q) (mode : Rounding)
    (neg : Bool) : RoundsTo mode (withSign neg (m / 2 ^ q)) (signedInt neg (roundTo mode neg mant exp rest q).1)
      ∧ ((roundTo mode neg mant exp rest q).2 = true ↔ m / 2 ^ q ≠ (roundTo mode neg mant exp rest q).1) := by
  rcases lt_or_ge exp q with hlt | hle
  · exact roundTo_spec_of_lt hm (d := (q - exp).toNat - 1) (by omega) mode neg
  · have hrest : rest = false := Bool.eq_false_iff.2 fun h => hle.not_gt (hq h)
    have hm : m = mant * 2 ^ exp := by simpa [hrest] using hm.rest
    have hwhole : m / 2 ^ q = (mant * 2 ^ (exp - q).toNat : ℕ) := by
      rw [hm, mul_div_assoc, ← zpow_sub₀ two_ne_zero, ← Int.toNat_of_nonneg (sub_nonneg.2 hle), zpow_natCast]
      push_cast
      rfl
    rw [roundTo_of_le hle, hwhole, hrest]
    refine ⟨?_, by simp⟩
    have := roundsTo_self mode (signedInt neg (mant * 2 ^ (exp - q).toNat))
    rwa [cast_signedInt] at this

/-! ### CheckOutput (R434) -/

variable {f : FpFmt} {fcr : Word} {v : Dword} {m : ℝ} {p : ℕ}

/-- Rounding to `p` significant bits is rounding to an integer, with the unit that leaves `p` bits. -/
theorem roundedTo_of_roundsTo (hlow : (2 : ℝ) ^ (q + p - 1) ≤ |x|) (hhigh : |x| < (2 : ℝ) ^ (q + p))
    (h : RoundsTo mode (x / 2 ^ q) k) : roundedTo mode p x (k * 2 ^ q) := by
  have hq : (0 : ℝ) < 2 ^ q := by positivity
  refine ⟨q, k, hlow, hhigh, rfl, ?_⟩
  have hx : x = x / 2 ^ q * 2 ^ q := (div_mul_cancel₀ _ hq.ne').symm
  generalize x / 2 ^ q = y at *
  subst hx
  have habs : |y * 2 ^ q - k * 2 ^ q| = |y - k| * 2 ^ q := by rw [← sub_mul, abs_mul, abs_of_pos hq]
  cases mode <;> dsimp only [RoundsTo] at h ⊢
  case rn => rwa [habs, div_eq_mul_one_div, mul_comm _ (1 / 2 : ℝ), mul_le_mul_iff_left₀ hq, mul_left_inj' hq.ne']
  case rz => rwa [habs, abs_mul, abs_mul, mul_le_mul_iff_left₀ (abs_pos.2 hq.ne'), mul_lt_iff_lt_one_left hq]
  case rp => rwa [← sub_mul, mul_le_mul_iff_left₀ hq, mul_lt_iff_lt_one_left hq]
  case rm => rwa [← sub_mul, mul_le_mul_iff_left₀ hq, mul_lt_iff_lt_one_left hq]

/-- The same for the significant bits of a format. -/
theorem roundedTo_precision {f : FpFmt} (hlow : (2 : ℝ) ^ (q + f.frac) ≤ |x|) (hhigh : |x| < (2 : ℝ) ^ (q + f.frac + 1))
    (h : RoundsTo mode (x / 2 ^ q) k) : roundedTo mode f.precision x (k * 2 ^ q) := by
  have hp : q + (f.precision : ℤ) = q + f.frac + 1 := by
    have := f.precision_eq
    omega
  exact roundedTo_of_roundsTo (by rwa [hp, add_sub_cancel_right]) (by rwa [hp]) h

/-- The exponent of a magnitude is that of the highest bit of its integer part. -/
theorem Magnitude.log2_bounds (hm : Magnitude mant exp rest m) (hpos : 0 < mant) :
    (2 : ℝ) ^ (mant.log2 + exp : ℤ) ≤ m ∧ m < (2 : ℝ) ^ (mant.log2 + exp + 1 : ℤ) := by
  have hexp : (0 : ℝ) < 2 ^ exp := by positivity
  have hlow : ((2 ^ mant.log2 : ℕ) : ℝ) ≤ mant := by exact_mod_cast Nat.log2_self_le hpos.ne'
  have hhigh : (mant : ℝ) + 1 ≤ (2 ^ (mant.log2 + 1) : ℕ) := by exact_mod_cast Nat.lt_log2_self
  constructor
  · calc (2 : ℝ) ^ (mant.log2 + exp : ℤ) = (2 ^ mant.log2 : ℕ) * 2 ^ exp := by
          rw [zpow_add₀ two_ne_zero, zpow_natCast]; push_cast; rfl
      _ ≤ mant * 2 ^ exp := mul_le_mul_of_nonneg_right hlow hexp.le
      _ ≤ m := hm.lower
  · calc m < (mant + 1) * 2 ^ exp := hm.upper
      _ ≤ (2 ^ (mant.log2 + 1) : ℕ) * 2 ^ exp := mul_le_mul_of_nonneg_right hhigh hexp.le
      _ = (2 : ℝ) ^ (mant.log2 + exp + 1 : ℤ) := by
          rw [add_right_comm, zpow_add₀ two_ne_zero, ← Nat.cast_succ, zpow_natCast]; push_cast; rfl

theorem FpFmt.answers_of_tiny {ans : FpAnswer} (h : |x| < (2 : ℝ) ^ f.emin)
    (hans : ans = if fcrTinyTraps fcr then .unimplemented
      else { exc := fpUI, val := f.flushed (fcrRounding fcr) (decide (x < 0)) }) : f.answers fcr x ans := by
  rw [FpFmt.answers, if_pos h]
  split <;> simp_all

/-- A result that is not tiny answers its rounding, unless that overflows. -/
theorem FpFmt.answers_of_rounded {ans : FpAnswer} (h : (2 : ℝ) ^ f.emin ≤ |x|) {r : ℝ}
    (hr : roundedTo (fcrRounding fcr) f.precision x r)
    (hover : (2 : ℝ) ^ f.top ≤ |r| → ans = { exc := fpOI, val := f.overflowed (fcrRounding fcr) (decide (x < 0)) })
    (hans : |r| < (2 : ℝ) ^ f.top → f.isNormal ans.val ∧ ((f.number ans.val : ℚ) : ℝ) = r
      ∧ (x < 0 ↔ f.neg ans.val = true) ∧ (ans.exc = fpNone ∧ r = x ∨ ans.exc = fpI ∧ r ≠ x)) :
    f.answers fcr x ans := by
  rw [FpFmt.answers, if_neg h.not_gt]
  refine ⟨r, hr, ?_⟩
  split
  · next htop => exact hover htop
  · next htop => exact hans (not_le.1 htop)

/-- Rounding a magnitude between two powers of two keeps it between them, so the significand has the bits of the format,
or is one power of two above. -/
theorem significand_bounds {e : ℤ} {p k : ℕ} (hlow : (2 : ℝ) ^ e ≤ m) (hhigh : m < (2 : ℝ) ^ (e + 1))
    (h : RoundsTo mode (withSign neg (m / 2 ^ (e - p))) (signedInt neg k)) : 2 ^ p ≤ k ∧ k ≤ 2 ^ (p + 1) := by
  have hq : (0 : ℝ) < 2 ^ (e - p) := by positivity
  have hm0 : 0 < m := lt_of_lt_of_le (by positivity) hlow
  have habs : |withSign neg (m / (2 : ℝ) ^ (e - p))| = m / 2 ^ (e - p) := by
    rw [abs_withSign, abs_of_pos (div_pos hm0 hq)]
  have hunit : ∀ n : ℕ, ((2 ^ n : ℕ) : ℝ) * 2 ^ (e - p) = 2 ^ (e - p + n) := fun n => by
    rw [zpow_add₀ two_ne_zero, zpow_natCast, mul_comm]
    push_cast
    rfl
  have hbounds := h.natAbs_bounds (a := 2 ^ p) (b := 2 ^ (p + 1))
    (by rw [habs, le_div_iff₀ hq, hunit, sub_add_cancel]; exact hlow)
    (by rw [habs, div_le_iff₀ hq, hunit, Nat.cast_succ, ← add_assoc, sub_add_cancel]; exact hhigh.le)
  have hk : (signedInt neg k).natAbs = k := by cases neg <;> simp [signedInt]
  rwa [hk] at hbounds

/-- The overflow test of the model is that of the rounded value. -/
theorem FpFmt.overflows_iff {e : ℤ} {k : ℕ} (hlow : 2 ^ f.frac ≤ k) (hhigh : k ≤ 2 ^ (f.frac + 1)) :
    (2 : ℝ) ^ f.top ≤ k * 2 ^ (e - f.frac) ↔ f.bias < e ∨ f.bias = e ∧ k = 2 ^ (f.frac + 1) := by
  have hq : (0 : ℝ) < 2 ^ (e - f.frac) := by positivity
  have hunit : (2 : ℝ) ^ f.top = 2 ^ (f.bias - e + (f.frac + 1 : ℕ)) * 2 ^ (e - f.frac) := by
    rw [← zpow_add₀ two_ne_zero, f.top_eq]
    congr 1
    push_cast
    ring
  rw [hunit, mul_le_mul_iff_left₀ hq]
  rcases lt_trichotomy f.bias e with hlt | heq | hgt
  · have : (2 : ℝ) ^ (f.bias - e + (f.frac + 1 : ℕ)) ≤ k := by
      calc (2 : ℝ) ^ (f.bias - e + (f.frac + 1 : ℕ))
          _ ≤ 2 ^ (f.frac : ℤ) := zpow_le_zpow_right₀ one_le_two (by omega)
          _ ≤ k := by rw [zpow_natCast]; exact_mod_cast hlow
    exact iff_of_true this (.inl hlt)
  · rw [heq, sub_self, zero_add, zpow_natCast]
    norm_cast
    omega
  · have : (k : ℝ) < 2 ^ (f.bias - e + (f.frac + 1 : ℕ)) := by
      calc (k : ℝ) ≤ 2 ^ ((f.frac + 1 : ℕ) : ℤ) := by rw [zpow_natCast]; exact_mod_cast hhigh
        _ < _ := zpow_lt_zpow_right₀ one_lt_two (by omega)
    simp only [this.not_ge, false_iff]
    omega

/-- The rounded magnitude, packed unless it overflows, is what a result that is not tiny answers. -/
theorem FpFmt.packed_answers (f : FpFmt) (fcr : Word) {e : ℤ} {k : ℕ} {inexact : Bool} (hlow : (2 : ℝ) ^ e ≤ m)
    (hhigh : m < (2 : ℝ) ^ (e + 1)) (hemin : f.emin ≤ e)
    (hround : RoundsTo (fcrRounding fcr) (withSign neg (m / 2 ^ (e - f.frac))) (signedInt neg k))
    (hinexact : inexact = true ↔ m / 2 ^ (e - f.frac) ≠ k) : f.answers fcr (withSign neg m)
      (if f.bias < e ∨ f.bias = e ∧ k = 2 ^ (f.frac + 1)
        then { exc := fpOI, val := f.overflowed (fcrRounding fcr) neg }
        else { exc := if inexact then fpI else fpNone, val := f.pack neg k (e - f.frac) }) := by
  have hm0 : 0 < m := lt_of_lt_of_le (by positivity) hlow
  have hq : (0 : ℝ) < 2 ^ (e - f.frac) := by positivity
  have hneg : withSign neg m < 0 ↔ neg = true := withSign_lt_zero hm0
  have habs : |withSign neg m| = m := by rw [abs_withSign, abs_of_pos hm0]
  obtain ⟨hk0, hk1⟩ := significand_bounds hlow hhigh hround
  have hr : |((signedInt neg k : ℤ) : ℝ) * 2 ^ (e - f.frac)| = k * 2 ^ (e - f.frac) := by
    rw [cast_signedInt, ← withSign_mul, abs_withSign, abs_of_nonneg (by positivity)]
  have hover := f.overflows_iff (e := e) hk0 hk1
  rw [withSign_div] at hround
  refine FpFmt.answers_of_rounded (habs.symm ▸ (zpow_le_zpow_right₀ one_le_two hemin).trans hlow)
    (roundedTo_precision (by rwa [habs, sub_add_cancel]) (by rwa [habs, sub_add_cancel]) hround)
    (fun h => ?overflow) (fun h => ?packed)
  case overflow =>
    have hsign : decide (withSign neg m < 0) = neg := by rw [Bool.eq_iff_iff, decide_eq_true_iff, hneg]
    rw [if_pos (hover.1 (hr ▸ h)), hsign]
  case packed =>
    have hno := mt hover.2 (hr ▸ h).not_ge
    obtain ⟨hnormal, hpneg, hpnum⟩ := FpFmt.normal_pack (neg := neg) (q := e - f.frac) hk0 hk1 (by omega) (by omega)
      fun h hk => hno (.inr ⟨by omega, hk⟩)
    have hexact : ((signedInt neg k : ℤ) : ℝ) * 2 ^ (e - f.frac) = withSign neg m ↔ inexact = false := by
      rw [← Bool.not_eq_true, hinexact, not_not, div_eq_iff hq.ne', cast_signedInt, ← withSign_mul]
      cases neg <;> simp [eq_comm]
    rw [if_neg hno]
    refine ⟨hnormal, ?_, by rw [hneg, hpneg], ?_⟩
    · rw [hpnum, cast_withSign_real, cast_signedInt, ← withSign_mul]
      push_cast
      rfl
    · cases inexact with
      | true => exact .inr ⟨rfl, fun h => Bool.noConfusion (hexact.1 h)⟩
      | false => exact .inl ⟨rfl, hexact.2 rfl⟩

/-- A finished result, whatever its exponent, is what the exact result `withSign neg m` answers. -/
theorem FpFmt.finish_answers (f : FpFmt) (fcr : Word) (neg : Bool) (hm : Magnitude mant exp rest m) (hpos : 0 < mant)
    (hrest : rest = true → f.frac < mant.log2) : f.answers fcr (withSign neg m) (f.finish fcr neg mant exp rest) := by
  obtain ⟨hlow, hhigh⟩ := hm.log2_bounds hpos
  rw [FpFmt.finish]
  generalize he : (mant.log2 : ℤ) + exp = e at *
  dsimp only
  split
  case isTrue htiny =>
    have hm0 : 0 < m := lt_of_lt_of_le (by positivity) hlow
    have habs : |withSign neg m| = m := by rw [abs_withSign, abs_of_pos hm0]
    have hsign : decide (withSign neg m < 0) = neg := by
      rw [Bool.eq_iff_iff, decide_eq_true_iff, withSign_lt_zero hm0]
    have hsmall : m < 2 ^ f.emin := hhigh.trans_le (zpow_le_zpow_right₀ one_le_two (by omega))
    exact FpFmt.answers_of_tiny (habs.symm ▸ hsmall) (by rw [hsign])
  case isFalse htiny =>
    have hfiner : rest = true → exp < e - f.frac := fun h => by
      have := hrest h
      omega
    obtain ⟨hround, hinexact⟩ := roundTo_spec hm hfiner (fcrRounding fcr) neg
    exact f.packed_answers fcr hlow hhigh (not_lt.1 htiny) hround hinexact

end Sys2Proof.Machine
end

section
/-!
Proofs/FpuArith: the arithmetic of finite operands (47_fpu_arith R436 to R440; obligations O53, O54). For each operation
it remains to say what magnitude the model hands to CheckOutput: an aligned sum, a product, a quotient or a root taken
far enough for the rest below it not to matter.
-/

namespace Sys2Proof.Machine

variable {f : FpFmt} {fcr : Word} {a b v : Dword} {m ma mb : ℕ} {e ea eb : ℤ}

/-! ### Exact results -/

theorem FpFmt.finish_answers_exact (f : FpFmt) (fcr : Word) (neg : Bool) (hpos : 0 < m) (e : ℤ) :
    f.answers fcr (withSign neg ((m : ℝ) * 2 ^ e)) (f.finish fcr neg m e false) :=
  f.finish_answers fcr neg (magnitude_exact m e) hpos nofun

theorem FpFmt.finish_answers_int (f : FpFmt) (fcr : Word) {z : ℤ} (hz : z ≠ 0) (e : ℤ) :
    f.answers fcr ((z : ℝ) * 2 ^ e) (f.finish fcr (decide (z < 0)) z.natAbs e false) := by
  have h := f.finish_answers_exact fcr (decide (z < 0)) (Int.natAbs_pos.2 hz) e
  rwa [withSign_mul, ← cast_signedInt, signedInt_eq_withSign, withSign_natAbs] at h

/-- A normal number is its own rounding. -/
theorem FpFmt.exact_answers (h : f.isNormal v) (fcr : Word) :
    f.answers fcr ((f.number v : ℚ) : ℝ) (.exact v) := by
  have hv := FpFmt.normalAs_of_isNormal h
  generalize 2 ^ f.frac + f.fracField v = m at hv
  generalize (f.expField v - f.bias - f.frac : ℤ) = e at hv
  have hpos : (0 : ℝ) < m := by exact_mod_cast hv.pos
  have habs : |((f.number v : ℚ) : ℝ)| = m * 2 ^ e := by rw [hv.real, abs_withSign, abs_of_pos (by positivity)]
  have hlow : (2 : ℝ) ^ (e + f.frac) ≤ m * 2 ^ e := by
    rw [add_comm, zpow_add₀ two_ne_zero, zpow_natCast]
    exact mul_le_mul_of_nonneg_right (by exact_mod_cast hv.lower) (by positivity)
  have hhigh : (m : ℝ) * 2 ^ e < 2 ^ (e + f.frac + 1) := by
    rw [add_assoc, add_comm, zpow_add₀ two_ne_zero, ← Nat.cast_succ, zpow_natCast]
    exact mul_lt_mul_of_pos_right (by exact_mod_cast hv.upper) (by positivity)
  have hrounded : roundedTo (fcrRounding fcr) f.precision ((f.number v : ℚ) : ℝ) (signedInt (f.neg v) m * 2 ^ e) := by
    refine roundedTo_precision (habs ▸ hlow) (habs ▸ hhigh) ?_
    rw [hv.real, withSign_mul, mul_div_cancel_right₀ _ (by positivity), ← cast_signedInt]
    exact roundsTo_self _ _
  rw [cast_signedInt, ← withSign_mul, ← hv.real] at hrounded
  refine FpFmt.answers_of_rounded ?_ hrounded (fun htop => ?_) fun _ => ⟨h, rfl, ?_, .inl ⟨rfl, rfl⟩⟩
  · rw [habs]
    exact (zpow_le_zpow_right₀ one_le_two hv.emin).trans hlow
  · have hle : (2 : ℝ) ^ (e + f.frac + 1) ≤ 2 ^ f.top :=
      zpow_le_zpow_right₀ one_le_two (by have := f.top_eq; have := hv.bias; omega)
    exact absurd (habs ▸ htop) (hhigh.trans_le hle).not_ge
  · rw [hv.real, withSign_lt_zero (by positivity)]
    rfl

/-! ### Addition and subtraction (R436, R437) -/

/-- An operand brought to a smaller exponent keeps its value. -/
theorem aligned_eq (neg : Bool) (m : ℕ) (h : e ≤ ea) :
    ((signedInt neg (m * 2 ^ (ea - e).toNat) : ℤ) : ℝ) * 2 ^ e = withSign neg ((m : ℝ) * 2 ^ ea) := by
  have hea : (ea - e).toNat + e = ea := by omega
  rw [cast_signedInt, ← withSign_mul]
  congr 1
  conv_rhs => rw [← hea, zpow_add₀ two_ne_zero, zpow_natCast]
  push_cast
  ring

/-- The aligned sum of two normal operands, in the model's terms. -/
def alignedSum (na : Bool) (ma : ℕ) (ea : ℤ) (nb : Bool) (mb : ℕ) (eb : ℤ) : ℤ :=
  signedInt na (ma * 2 ^ (ea - min ea eb).toNat) + signedInt nb (mb * 2 ^ (eb - min ea eb).toNat)

theorem FpFmt.addNormal_eq (na nb : Bool) : f.addNormal fcr na ma ea nb mb eb =
    if alignedSum na ma ea nb mb eb = 0 then .exact (f.zero (zeroSumNeg fcr))
    else f.finish fcr (decide (alignedSum na ma ea nb mb eb < 0)) (alignedSum na ma ea nb mb eb).natAbs (min ea eb)
      false :=
  rfl

theorem alignedSum_eq (ha : f.NormalAs a ma ea) (hb : f.NormalAs b mb eb) :
    ((f.number a + f.number b : ℚ) : ℝ) = (alignedSum (f.neg a) ma ea (f.neg b) mb eb : ℤ) * 2 ^ min ea eb := by
  rw [alignedSum, Int.cast_add, add_mul, aligned_eq _ _ (min_le_left ..), aligned_eq _ _ (min_le_right ..),
    Rat.cast_add, ha.real, hb.real]

theorem alignedSum_eq_zero_iff (ha : f.NormalAs a ma ea) (hb : f.NormalAs b mb eb) :
    alignedSum (f.neg a) ma ea (f.neg b) mb eb = 0 ↔ f.number a + f.number b = 0 := by
  have hpow : (2 : ℝ) ^ min ea eb ≠ 0 := by positivity
  rw [← Rat.cast_eq_zero (α := ℝ), alignedSum_eq ha hb, mul_eq_zero_iff_right hpow, Int.cast_eq_zero]

theorem FpFmt.add_of_normal (ha : f.NormalAs a ma ea) (hb : f.NormalAs b mb eb) (fcr : Word) :
    f.add fcr a b = f.addNormal fcr (f.neg a) ma ea (f.neg b) mb eb := by
  rw [FpFmt.add, ha.classify, hb.classify]
  rfl

theorem FpFmt.add_zero_left (ha : f.isZero a) (hb : f.isNormal b) (fcr : Word) : f.add fcr a b = .exact b := by
  rw [FpFmt.add, FpFmt.classify_of_isZero ha, FpFmt.classify_of_isNormal hb]
  rfl

theorem FpFmt.add_zero_right (ha : f.isNormal a) (hb : f.isZero b) (fcr : Word) : f.add fcr a b = .exact a := by
  rw [FpFmt.add, FpFmt.classify_of_isNormal ha, FpFmt.classify_of_isZero hb]
  rfl

theorem FpFmt.add_zeros (ha : f.isZero a) (hb : f.isZero b) (fcr : Word) :
    f.add fcr a b = .exact (f.zero (if f.neg a = f.neg b then f.neg a else zeroSumNeg fcr)) := by
  rw [FpFmt.add, FpFmt.classify_of_isZero ha, FpFmt.classify_of_isZero hb]
  rfl

/-- A finite operand that is not subnormal. -/
abbrev FpFmt.isFinite (f : FpFmt) (v : Dword) : Prop := f.isNormal v ∨ f.isZero v

theorem FpFmt.number_ne_zero (h : f.isNormal v) : f.number v ≠ 0 := (FpFmt.normalAs_of_isNormal h).number_ne_zero

/-- A sum that is not 0 is rounded once. -/
theorem FpFmt.add_answers (ha : f.isFinite a) (hb : f.isFinite b) (h : f.number a + f.number b ≠ 0) (fcr : Word) :
    f.answers fcr ((f.number a + f.number b : ℚ) : ℝ) (f.add fcr a b) := by
  rcases ha with ha | ha <;> rcases hb with hb | hb
  · have ha' := FpFmt.normalAs_of_isNormal ha
    have hb' := FpFmt.normalAs_of_isNormal hb
    have hsum := mt (alignedSum_eq_zero_iff ha' hb').1 h
    rw [FpFmt.add_of_normal ha' hb', FpFmt.addNormal_eq, if_neg hsum, alignedSum_eq ha' hb']
    exact f.finish_answers_int fcr hsum _
  · rw [FpFmt.add_zero_right ha hb, FpFmt.number_of_isZero hb, add_zero]
    exact FpFmt.exact_answers ha fcr
  · rw [FpFmt.add_zero_left ha hb, FpFmt.number_of_isZero ha, zero_add]
    exact FpFmt.exact_answers hb fcr
  · exact absurd (by rw [FpFmt.number_of_isZero ha, FpFmt.number_of_isZero hb, add_zero]) h

/-- An exact zero sum has the operands' common sign, and else the sign the rounding mode gives it. -/
theorem FpFmt.add_of_zero_sum (ha : f.isFinite a) (hb : f.isFinite b) (h : f.number a + f.number b = 0) (fcr : Word) :
    f.add fcr a b =
      .exact (f.zero (if f.isZero a ∧ f.neg a = f.neg b then f.neg b else decide (fcrRounding fcr = .rm))) := by
  rcases ha with ha | ha <;> rcases hb with hb | hb
  · have ha' := FpFmt.normalAs_of_isNormal ha
    have hb' := FpFmt.normalAs_of_isNormal hb
    rw [FpFmt.add_of_normal ha' hb', FpFmt.addNormal_eq, if_pos ((alignedSum_eq_zero_iff ha' hb').2 h),
      if_neg fun hzero => ha.1.ne' hzero.1.1]
    rfl
  · exact absurd (by simpa [FpFmt.number_of_isZero hb] using h) (FpFmt.number_ne_zero ha)
  · exact absurd (by simpa [FpFmt.number_of_isZero ha] using h) (FpFmt.number_ne_zero hb)
  · rw [FpFmt.add_zeros ha hb]
    by_cases hsign : f.neg a = f.neg b
    · rw [if_pos hsign, if_pos ⟨ha, hsign⟩, hsign]
    · rw [if_neg hsign, if_neg fun h => hsign h.2]
      rfl

/-- The class of an operand does not depend on its sign. -/
theorem FpFmt.refused_negate (f : FpFmt) (v : Dword) : (f.classify (f.negate v)).refused = (f.classify v).refused := by
  simp only [FpFmt.classify, FpFmt.expField_negate, FpFmt.fracField_negate]
  split_ifs <;> rfl

theorem FpFmt.isSNaN_negate (f : FpFmt) (v : Dword) : (f.classify (f.negate v)).isSNaN = (f.classify v).isSNaN := by
  simp only [FpFmt.classify, FpFmt.expField_negate, FpFmt.fracField_negate]
  split_ifs <;> rfl

theorem FpFmt.isFinite_negate (hb : f.isFinite b) : f.isFinite (f.negate b) := by
  simpa only [FpFmt.isFinite, FpFmt.isNormal, FpFmt.isZero, FpFmt.expField_negate, FpFmt.fracField_negate] using hb

/-- A difference is the sum with the second operand's sign inverted. -/
theorem FpFmt.sub_eq_add_negate (f : FpFmt) (fcr : Word) (a b : Dword) : f.sub fcr a b = f.add fcr a (f.negate b) := by
  simp only [FpFmt.sub, FpFmt.add, checkInputs, FpFmt.refused_negate, FpFmt.isSNaN_negate]

/-- Settles O53: ADD by its two lemmas, SUB by the same for the second operand negated. -/
theorem fpAddSub : Obligations.FpAddSub := by
  intro f s fd fs ft hcu1 a b finite ha hb cell result
  have hb' : f.isFinite (f.negate b) := FpFmt.isFinite_negate hb
  have hadd := exec_addFmt s f fd fs ft
  have hsub := (exec_subFmt s f fd fs ft).trans (by rw [FpFmt.sub_eq_add_negate])
  have hdiff : f.number a - f.number b = f.number a + f.number (f.negate b) := by
    rw [FpFmt.number_negate, sub_eq_add_neg]
  refine ⟨⟨fun hx => ⟨_, FpFmt.add_answers ha hb hx _, fpSignals_of_fpOp hcu1 hadd rfl⟩,
    fun hx => fpSignals_of_fpOp hcu1 hadd (FpFmt.add_of_zero_sum ha hb hx _)⟩, ?_⟩
  rw [hdiff, ← FpFmt.neg_negate]
  exact ⟨fun hx => ⟨_, FpFmt.add_answers ha hb' hx _, fpSignals_of_fpOp hcu1 hsub rfl⟩,
    fun hx => fpSignals_of_fpOp hcu1 hsub (FpFmt.add_of_zero_sum ha hb' hx _)⟩

/-! ### Multiplication (R438) -/

theorem FpFmt.mul_of_normal (ha : f.NormalAs a ma ea) (hb : f.NormalAs b mb eb) (fcr : Word) :
    f.mul fcr a b = f.finish fcr (f.neg a != f.neg b) (ma * mb) (ea + eb) false := by
  rw [FpFmt.mul, ha.classify, hb.classify]
  rfl

theorem FpFmt.mul_answers (ha : f.isNormal a) (hb : f.isNormal b) (fcr : Word) :
    f.answers fcr ((f.number a : ℝ) * (f.number b : ℝ)) (f.mul fcr a b) := by
  have ha := FpFmt.normalAs_of_isNormal ha
  have hb := FpFmt.normalAs_of_isNormal hb
  have h := f.finish_answers_exact fcr (f.neg a != f.neg b) (Nat.mul_pos ha.pos hb.pos)
    ((f.expField a - f.bias - f.frac : ℤ) + (f.expField b - f.bias - f.frac))
  rw [zpow_add₀ two_ne_zero, Nat.cast_mul, mul_mul_mul_comm, withSign_bne_mul, ← ha.real, ← hb.real] at h
  rw [FpFmt.mul_of_normal ha hb]
  exact h

theorem FpFmt.mul_of_zero (ha : f.isFinite a) (hb : f.isFinite b) (h : f.isZero a ∨ f.isZero b) (fcr : Word) :
    f.mul fcr a b = .exact (f.zero (f.neg a != f.neg b)) := by
  have hzero : ∀ {v}, f.isNormal v → ¬ f.isZero v := fun hn hz => hn.1.ne' hz.1
  rw [FpFmt.mul]
  rcases ha with ha | ha <;> rcases hb with hb | hb
  · exact (h.elim (hzero ha) (hzero hb)).elim
  · rw [FpFmt.classify_of_isNormal ha, FpFmt.classify_of_isZero hb]
    rfl
  · rw [FpFmt.classify_of_isZero ha, FpFmt.classify_of_isNormal hb]
    rfl
  · rw [FpFmt.classify_of_isZero ha, FpFmt.classify_of_isZero hb]
    rfl

/-! ### Division (R439) -/

/-- The truncated quotient, with `rest` for its remainder, is the quotient's magnitude. -/
theorem magnitude_div (hb : 0 < mb) (ea eb : ℤ) : Magnitude (ma * 2 ^ 64 / mb) (ea - eb - 64) (ma * 2 ^ 64 % mb != 0)
    ((ma : ℝ) * 2 ^ ea / (mb * 2 ^ eb)) := by
  have hunit : (0 : ℝ) < 2 ^ (ea - eb - 64) := by positivity
  have hmb : (0 : ℝ) < mb := by exact_mod_cast hb
  have hquot : (ma : ℝ) * 2 ^ ea / (mb * 2 ^ eb) = ((ma * 2 ^ 64 : ℕ) : ℝ) / mb * 2 ^ (ea - eb - 64) := by
    rw [sub_sub, zpow_sub₀ two_ne_zero, zpow_add₀ two_ne_zero, zpow_ofNat]
    push_cast
    field_simp
    norm_num
  generalize ma * 2 ^ 64 = n at *
  rw [hquot]
  have hdiv : (mb : ℝ) * (n / mb : ℕ) + (n % mb : ℕ) = n := by exact_mod_cast Nat.div_add_mod n mb
  have hlt : ((n % mb : ℕ) : ℝ) < mb := by exact_mod_cast Nat.mod_lt n hb
  refine ⟨?_, ?_, ?_⟩
  · rw [mul_le_mul_iff_left₀ hunit]
    exact Nat.cast_div_le
  · rw [mul_lt_mul_iff_left₀ hunit, div_lt_iff₀ hmb]
    linarith
  · rw [bne_iff_ne, ne_eq, ne_eq, mul_left_inj' hunit.ne', div_eq_iff hmb.ne', not_iff_not, ← Nat.cast_inj (R := ℝ)]
    constructor <;> intro h <;> push_cast at * <;> linarith

theorem FpFmt.div_of_normal (ha : f.NormalAs a ma ea) (hb : f.NormalAs b mb eb) (fcr : Word) : f.div fcr a b =
    f.finish fcr (f.neg a != f.neg b) (ma * 2 ^ 64 / mb) (ea - eb - 64) (ma * 2 ^ 64 % mb != 0) := by
  rw [FpFmt.div, ha.classify, hb.classify]
  rfl

/-- The quotient is taken to more bits than the format has. -/
theorem FpFmt.NormalAs.le_quotient (ha : f.NormalAs a ma ea) (hb : f.NormalAs b mb eb) : 2 ^ 63 ≤ ma * 2 ^ 64 / mb := by
  rw [Nat.le_div_iff_mul_le hb.pos]
  calc 2 ^ 63 * mb ≤ 2 ^ 63 * 2 ^ (f.frac + 1) := Nat.mul_le_mul_left _ hb.upper.le
    _ = 2 ^ f.frac * 2 ^ 64 := by ring
    _ ≤ ma * 2 ^ 64 := Nat.mul_le_mul_right _ ha.lower

theorem FpFmt.frac_lt (f : FpFmt) : f.frac < 58 := by cases f <;> decide

theorem FpFmt.div_answers (ha : f.isNormal a) (hb : f.isNormal b) (fcr : Word) :
    f.answers fcr ((f.number a : ℝ) / (f.number b : ℝ)) (f.div fcr a b) := by
  have ha := FpFmt.normalAs_of_isNormal ha
  have hb := FpFmt.normalAs_of_isNormal hb
  have hquot := ha.le_quotient hb
  have hpos := (Nat.two_pow_pos 63).trans_le hquot
  have hlog := (Nat.le_log2 hpos.ne').2 hquot
  rw [FpFmt.div_of_normal ha hb, ha.real, hb.real, ← withSign_bne_div]
  exact f.finish_answers fcr _ (magnitude_div hb.pos _ _) hpos fun _ => f.frac_lt.trans (by omega)

theorem FpFmt.div_of_zero_normal (ha : f.isZero a) (hb : f.isNormal b) (fcr : Word) :
    f.div fcr a b = .exact (f.zero (f.neg a != f.neg b)) := by
  rw [FpFmt.div, FpFmt.classify_of_isZero ha, FpFmt.classify_of_isNormal hb]
  rfl

theorem FpFmt.div_of_normal_zero (ha : f.isNormal a) (hb : f.isZero b) (fcr : Word) :
    f.div fcr a b = { exc := fpZ, val := f.inf (f.neg a != f.neg b) } := by
  rw [FpFmt.div, FpFmt.classify_of_isNormal ha, FpFmt.classify_of_isZero hb]
  rfl

theorem FpFmt.div_of_zeros (ha : f.isZero a) (hb : f.isZero b) (fcr : Word) : f.div fcr a b = .invalid f := by
  rw [FpFmt.div, FpFmt.classify_of_isZero ha, FpFmt.classify_of_isZero hb]
  rfl

/-! ### The square root (R440) -/

/-- The search keeps the root within the bits still to find. -/
theorem isqrtFrom_eq {n : ℕ} : ∀ {k r : ℕ}, r ≤ n.sqrt → n.sqrt < r + 2 ^ k → isqrtFrom n k r = n.sqrt
  | 0, r, hlow, hhigh => by
    rw [isqrtFrom]
    omega
  | k + 1, r, hlow, hhigh => by
    rw [pow_succ] at hhigh
    rw [isqrtFrom]
    split
    · next h => exact isqrtFrom_eq (Nat.le_sqrt.2 h) (by omega)
    · next h => exact isqrtFrom_eq hlow (Nat.sqrt_lt.2 (not_le.1 h))

theorem isqrt_eq_sqrt {n : ℕ} (h : n < 2 ^ 128) : isqrt n = n.sqrt :=
  isqrtFrom_eq (Nat.zero_le _) (by rw [zero_add, Nat.sqrt_lt]; exact h)

/-- The integer root, with `rest` when it is not exact, is the root's magnitude. -/
theorem magnitude_sqrt (n : ℕ) (e : ℤ) :
    Magnitude n.sqrt e (n.sqrt * n.sqrt != n) (Real.sqrt (n * 2 ^ (2 * e))) := by
  have hunit : (0 : ℝ) < 2 ^ e := by positivity
  have hroot : Real.sqrt (n * 2 ^ (2 * e)) = Real.sqrt n * 2 ^ e := by
    rw [Real.sqrt_mul n.cast_nonneg, mul_comm 2 e, zpow_mul, zpow_ofNat, Real.sqrt_sq hunit.le]
  rw [hroot]
  refine ⟨?_, ?_, ?_⟩
  · rw [mul_le_mul_iff_left₀ hunit]
    exact Real.nat_sqrt_le_real_sqrt
  · rw [mul_lt_mul_iff_left₀ hunit]
    exact Real.real_sqrt_lt_nat_sqrt_succ
  · rw [bne_iff_ne, ne_eq, ne_eq, mul_left_inj' hunit.ne', not_iff_not, Real.sqrt_eq_iff_mul_self_eq n.cast_nonneg
      (Nat.cast_nonneg _)]
    norm_cast
    exact eq_comm

/-- The model's square root, with the exponent made even by a shift of 64 or 65 bits. -/
theorem FpFmt.sqrtNormal_eq {d : ℕ} (hd : d = if e % 2 = 0 then 64 else 65) : f.sqrtNormal fcr m e =
    f.finish fcr false (isqrt (m * 2 ^ d)) ((e - d) / 2) (isqrt (m * 2 ^ d) * isqrt (m * 2 ^ d) != m * 2 ^ d) := by
  subst hd
  rw [FpFmt.sqrtNormal]
  split <;> rfl

theorem FpFmt.sqrt_of_normal (ha : f.NormalAs a m e) (hneg : f.neg a = false) (fcr : Word) :
    f.sqrt fcr a = f.sqrtNormal fcr m e := by
  rw [FpFmt.sqrt, ha.classify, hneg]
  rfl

theorem FpFmt.sqrt_answers (ha : f.isNormal a) (hneg : f.neg a = false) (fcr : Word) :
    f.answers fcr (Real.sqrt (f.number a : ℝ)) (f.sqrt fcr a) := by
  have ha := FpFmt.normalAs_of_isNormal ha
  generalize 2 ^ f.frac + f.fracField a = m at ha
  generalize (f.expField a - f.bias - f.frac : ℤ) = e at ha
  generalize hd : (if e % 2 = 0 then 64 else 65 : ℕ) = d
  have hd64 : 64 ≤ d ∧ d ≤ 65 := by split_ifs at hd <;> omega
  have heven : 2 * ((e - d) / 2) = e - d := by split_ifs at hd <;> omega
  have hnum : ((f.number a : ℚ) : ℝ) = (m * 2 ^ d : ℕ) * 2 ^ (2 * ((e - d) / 2)) := by
    rw [ha.real, hneg, withSign_false, heven, zpow_sub₀ two_ne_zero, zpow_natCast]
    push_cast
    field_simp
  have hfrac := f.frac_lt
  have hhigh : m * 2 ^ d < 2 ^ 128 := by
    calc m * 2 ^ d < 2 ^ (f.frac + 1) * 2 ^ d := Nat.mul_lt_mul_of_pos_right ha.upper (Nat.two_pow_pos d)
      _ = 2 ^ (f.frac + 1 + d) := (pow_add ..).symm
      _ ≤ 2 ^ 128 := Nat.pow_le_pow_right two_pos (by omega)
  have hlow : 2 ^ (f.frac + 1) ≤ (m * 2 ^ d).sqrt := by
    rw [Nat.le_sqrt, ← pow_add]
    calc 2 ^ (f.frac + 1 + (f.frac + 1)) ≤ 2 ^ (f.frac + d) := Nat.pow_le_pow_right two_pos (by omega)
      _ = 2 ^ f.frac * 2 ^ d := pow_add ..
      _ ≤ m * 2 ^ d := Nat.mul_le_mul_right _ ha.lower
  have hpos := (Nat.two_pow_pos _).trans_le hlow
  rw [FpFmt.sqrt_of_normal ha hneg, FpFmt.sqrtNormal_eq hd.symm, isqrt_eq_sqrt hhigh, hnum]
  exact f.finish_answers fcr false (magnitude_sqrt _ _) hpos fun _ => (Nat.le_log2 hpos.ne').2 hlow

theorem FpFmt.sqrt_of_isZero (ha : f.isZero a) (fcr : Word) : f.sqrt fcr a = .exact (f.zero (f.neg a)) := by
  rw [FpFmt.sqrt, FpFmt.classify_of_isZero ha]
  rfl

theorem FpFmt.sqrt_of_negative (ha : f.isNormal a) (hneg : f.neg a = true) (fcr : Word) :
    f.sqrt fcr a = .invalid f := by
  rw [FpFmt.sqrt, FpFmt.classify_of_isNormal ha, hneg]
  rfl

/-- A zero operand is the zero of its sign. -/
theorem State.zero_of_isZero {s : State} {i : FReg} (h : f.isZero (s.fpRead f i)) :
    f.zero (f.neg (s.fpRead f i)) = s.fpRead f i := by
  have hfields := FpFmt.pattern_of_fields (s.fpRead_toNat_lt f i)
  rwa [h.1, h.2, ← FpFmt.zero_eq_pattern] at hfields

/-- Settles O54: each case is one lemma about the operation's answer. -/
theorem fpMulDivSqrt : Obligations.FpMulDivSqrt := by
  intro f s fd fs ft hcu1 a b x y finite ha neg cell rounds gives
  have hmul := exec_mulFmt s f fd fs ft
  have hdiv := exec_divFmt s f fd fs ft
  have hsqrt := exec_sqrtFmt s f fd fs
  refine ⟨fun hb => ⟨fun ⟨han, hbn⟩ => ⟨?mul, ?div⟩, fun hz => ?mulZero, fun ⟨haz, hbn⟩ => ?divZero,
    fun ⟨han, hbz⟩ => ?divByZero, fun ⟨haz, hbz⟩ => ?divZeros⟩, fun haz => ?sqrtZero, fun ⟨han, hneg⟩ => ?sqrt,
    fun ⟨han, hneg⟩ => ?sqrtNegative⟩
  case mul => exact ⟨_, FpFmt.mul_answers han hbn _, fpSignals_of_fpOp hcu1 hmul rfl⟩
  case div => exact ⟨_, FpFmt.div_answers han hbn _, fpSignals_of_fpOp hcu1 hdiv rfl⟩
  case mulZero => exact fpSignals_of_fpOp hcu1 hmul (FpFmt.mul_of_zero ha hb hz _)
  case divZero => exact fpSignals_of_fpOp hcu1 hdiv (FpFmt.div_of_zero_normal haz hbn _)
  case divByZero => exact fpSignals_of_fpOp hcu1 hdiv (FpFmt.div_of_normal_zero han hbz _)
  case divZeros => exact fpSignals_of_fpOp hcu1 hdiv (FpFmt.div_of_zeros haz hbz _)
  case sqrtZero =>
    exact fpSignals_of_fpOp hcu1 hsqrt ((FpFmt.sqrt_of_isZero haz _).trans (by rw [State.zero_of_isZero haz]; rfl))
  case sqrt => exact ⟨_, FpFmt.sqrt_answers han hneg _, fpSignals_of_fpOp hcu1 hsqrt rfl⟩
  case sqrtNegative => exact fpSignals_of_fpOp hcu1 hsqrt (FpFmt.sqrt_of_negative han hneg _)

end Sys2Proof.Machine
end

section
/-!
Proofs/FpuSpecial: operands that are no finite numbers, and the operations on the sign bit alone (47_fpu_arith R433,
R435 to R443; obligations O55, O56). The input check settles subnormals and NaNs for every operation at once; the
infinities are one lemma for each rule.
-/

namespace Sys2Proof.Machine

variable {f dst : FpFmt} {fcr : Word} {s : State} {fd fs ft i : FReg} {a b v : Dword} {k : FpAnswer}

/-! ### The input check (R433) -/

theorem FpFmt.refused_iff (f : FpFmt) (v : Dword) : (f.classify v).refused = true ↔ f.refuses v := by
  have hones := f.expOnes_ne_zero
  rw [FpFmt.classify]
  split_ifs with h1 h2 h3 h2 h3 <;>
    simp_all [FpDatum.refused, FpFmt.refuses, FpFmt.isSubnormal, FpFmt.isQNaN, eq_comm]

theorem FpFmt.isSNaN_iff (f : FpFmt) (v : Dword) : (f.classify v).isSNaN = true ↔ f.isSNaN v := by
  have hpos := Nat.two_pow_pos (f.frac - 1)
  rw [FpFmt.classify]
  split_ifs with h1 h2 h3 h2 h3 <;> simp_all [FpDatum.isSNaN, FpFmt.isSNaN]

theorem checkInputs_of_refuses (h : f.refuses a ∨ f.refuses b) :
    checkInputs dst (f.classify a) (f.classify b) k = .unimplemented :=
  if_pos (by rwa [Bool.or_eq_true, FpFmt.refused_iff, FpFmt.refused_iff])

theorem checkInputs_of_isSNaN (ha : ¬ f.refuses a) (hb : ¬ f.refuses b) (h : f.isSNaN a ∨ f.isSNaN b) :
    checkInputs dst (f.classify a) (f.classify b) k = .invalid dst :=
  (if_neg (by rw [Bool.or_eq_true, FpFmt.refused_iff, FpFmt.refused_iff]; exact not_or.2 ⟨ha, hb⟩)).trans
    (if_pos (by rwa [Bool.or_eq_true, FpFmt.isSNaN_iff, FpFmt.isSNaN_iff]))

theorem checkInput_of_refuses (h : f.refuses a) : checkInput dst (f.classify a) k = .unimplemented :=
  if_pos ((f.refused_iff a).2 h)

theorem checkInput_of_isSNaN (h : f.isSNaN a) : checkInput dst (f.classify a) k = .invalid dst := by
  rw [FpFmt.classify_of_isSNaN h]
  rfl

/-! ### Infinities in the arithmetic -/

theorem FpFmt.add_infs (ha : f.isInf a) (hb : f.isInf b) (fcr : Word) :
    f.add fcr a b = { exc := if f.neg a != f.neg b then fpV else fpNone,
                      val := if f.neg a != f.neg b then f.defaultNaN else f.inf (f.neg a) } := by
  rw [FpFmt.add, FpFmt.classify_of_isInf ha, FpFmt.classify_of_isInf hb]
  cases f.neg a <;> cases f.neg b <;> rfl

theorem FpFmt.add_inf_left (ha : f.isInf a) (hb : f.isFinite b) (fcr : Word) :
    f.add fcr a b = .exact (f.inf (f.neg a)) := by
  rw [FpFmt.add, FpFmt.classify_of_isInf ha]
  rcases hb with hb | hb
  · rw [FpFmt.classify_of_isNormal hb]; rfl
  · rw [FpFmt.classify_of_isZero hb]; rfl

theorem FpFmt.add_inf_right (ha : f.isFinite a) (hb : f.isInf b) (fcr : Word) :
    f.add fcr a b = .exact (f.inf (f.neg b)) := by
  rw [FpFmt.add, FpFmt.classify_of_isInf hb]
  rcases ha with ha | ha
  · rw [FpFmt.classify_of_isNormal ha]; rfl
  · rw [FpFmt.classify_of_isZero ha]; rfl

theorem FpFmt.isInf_negate (hb : f.isInf b) : f.isInf (f.negate b) := by
  simpa only [FpFmt.isInf, FpFmt.expField_negate, FpFmt.fracField_negate] using hb

theorem FpFmt.sub_infs (ha : f.isInf a) (hb : f.isInf b) (fcr : Word) :
    f.sub fcr a b = { exc := if f.neg a != f.neg b then fpNone else fpV,
                      val := if f.neg a != f.neg b then f.inf (f.neg a) else f.defaultNaN } := by
  rw [FpFmt.sub_eq_add_negate, FpFmt.add_infs ha (FpFmt.isInf_negate hb), FpFmt.neg_negate]
  cases f.neg a <;> cases f.neg b <;> rfl

/-- Infinity times zero is invalid, either way round. -/
theorem FpFmt.mul_inf_zero (h : f.isInf a ∧ f.isZero b ∨ f.isZero a ∧ f.isInf b) (fcr : Word) :
    f.mul fcr a b = .invalid f := by
  rw [FpFmt.mul]
  rcases h with ⟨ha, hb⟩ | ⟨ha, hb⟩
  · rw [FpFmt.classify_of_isInf ha, FpFmt.classify_of_isZero hb]; rfl
  · rw [FpFmt.classify_of_isZero ha, FpFmt.classify_of_isInf hb]; rfl

/-- Infinity times anything else that is a number is infinity. -/
theorem FpFmt.mul_inf (h : f.isInf a ∧ (f.isInf b ∨ f.isNormal b) ∨ f.isNormal a ∧ f.isInf b) (fcr : Word) :
    f.mul fcr a b = .exact (f.inf (f.neg a != f.neg b)) := by
  rw [FpFmt.mul]
  rcases h with ⟨ha, hb | hb⟩ | ⟨ha, hb⟩
  · rw [FpFmt.classify_of_isInf ha, FpFmt.classify_of_isInf hb]; rfl
  · rw [FpFmt.classify_of_isInf ha, FpFmt.classify_of_isNormal hb]; rfl
  · rw [FpFmt.classify_of_isNormal ha, FpFmt.classify_of_isInf hb]; rfl

theorem FpFmt.div_infs (ha : f.isInf a) (hb : f.isInf b) (fcr : Word) : f.div fcr a b = .invalid f := by
  rw [FpFmt.div, FpFmt.classify_of_isInf ha, FpFmt.classify_of_isInf hb]
  rfl

theorem FpFmt.div_inf_left (ha : f.isInf a) (hb : f.isFinite b) (fcr : Word) :
    f.div fcr a b = .exact (f.inf (f.neg a != f.neg b)) := by
  rw [FpFmt.div, FpFmt.classify_of_isInf ha]
  rcases hb with hb | hb
  · rw [FpFmt.classify_of_isNormal hb]; rfl
  · rw [FpFmt.classify_of_isZero hb]; rfl

theorem FpFmt.div_inf_right (ha : f.isFinite a) (hb : f.isInf b) (fcr : Word) :
    f.div fcr a b = .exact (f.zero (f.neg a != f.neg b)) := by
  rw [FpFmt.div, FpFmt.classify_of_isInf hb]
  rcases ha with ha | ha
  · rw [FpFmt.classify_of_isNormal ha]; rfl
  · rw [FpFmt.classify_of_isZero ha]; rfl

theorem FpFmt.sqrt_of_isInf (ha : f.isInf a) (fcr : Word) :
    f.sqrt fcr a = if f.neg a then .invalid f else .exact (f.inf (f.neg a)) := by
  rw [FpFmt.sqrt, FpFmt.classify_of_isInf ha]
  cases f.neg a <;> rfl

/-- An infinite operand is the infinity of its sign. -/
theorem State.inf_of_isInf (h : f.isInf (s.fpRead f i)) : f.inf (f.neg (s.fpRead f i)) = s.fpRead f i := by
  have hfields := FpFmt.pattern_of_fields (s.fpRead_toNat_lt f i)
  rwa [h.1, h.2, ← FpFmt.inf_eq_pattern] at hfields

/-- Settles O55: the input check for the subnormals and NaNs, one lemma for each rule of the infinities. -/
theorem fpSpecialOperands : Obligations.FpSpecialOperands := by
  intro f s fd fs ft hcu1 a b finite neg gives two one
  have hadd := exec_addFmt s f fd fs ft
  have hsub := (exec_subFmt s f fd fs ft).trans (by rw [FpFmt.sub_eq_add_negate])
  have hmul := exec_mulFmt s f fd fs ft
  have hdiv := exec_divFmt s f fd fs ft
  have hsqrt := exec_sqrtFmt s f fd fs
  have htwo : ∀ i ∈ two, ∃ k, exec i s = s.fpOp f fd (checkInputs f (f.classify a) (f.classify b) k) := by
    simp only [two, List.forall_mem_cons, List.not_mem_nil, false_imp_iff, implies_true, and_true]
    exact ⟨⟨_, hadd⟩, ⟨_, exec_subFmt s f fd fs ft⟩, ⟨_, hmul⟩, ⟨_, hdiv⟩⟩
  have hone : ∀ i ∈ one, ∃ k, exec i s = s.fpOp f fd (checkInput f (f.classify a) k) := by
    simp only [one, List.forall_mem_cons, List.not_mem_nil, false_imp_iff, implies_true, and_true]
    exact ⟨⟨_, hsqrt⟩, ⟨_, exec_absFmt s f fd fs⟩, ⟨_, exec_negFmt s f fd fs⟩⟩
  refine ⟨fun i hi => ?two, fun i hi => ?one, fun ha hb => ⟨?addInfs, ?subInfs, ?mulInfs, ?divInfs⟩,
    fun ha hb => ⟨?addLeft, ?subLeft, ?divLeft, fun hz => ?mulLeftZero, fun hn => ?mulLeft⟩,
    fun ha hb => ⟨?addRight, ?subRight, ?divRight, fun hz => ?mulRightZero, fun hn => ?mulRight⟩,
    fun ha hpos => ?sqrtInf, fun ha hneg => ?sqrtNegInf⟩
  case two =>
    obtain ⟨k, hexec⟩ := htwo i hi
    exact ⟨fun h => fpSignals_of_fpOp hcu1 hexec (checkInputs_of_refuses h),
      fun ha hb h => fpSignals_of_fpOp hcu1 hexec (checkInputs_of_isSNaN ha hb h)⟩
  case one =>
    obtain ⟨k, hexec⟩ := hone i hi
    exact ⟨fun h => fpSignals_of_fpOp hcu1 hexec (checkInput_of_refuses h),
      fun h => fpSignals_of_fpOp hcu1 hexec (checkInput_of_isSNaN h)⟩
  case addInfs =>
    exact fpSignals_of_fpOp hcu1 hadd ((FpFmt.add_infs ha hb _).trans (by rw [State.inf_of_isInf ha]))
  case subInfs =>
    exact fpSignals_of_fpOp hcu1 (exec_subFmt s f fd fs ft)
      ((FpFmt.sub_infs ha hb _).trans (by rw [State.inf_of_isInf ha]))
  case mulInfs => exact fpSignals_of_fpOp hcu1 hmul (FpFmt.mul_inf (.inl ⟨ha, .inl hb⟩) _)
  case divInfs => exact fpSignals_of_fpOp hcu1 hdiv (FpFmt.div_infs ha hb _)
  case addLeft =>
    exact fpSignals_of_fpOp hcu1 hadd ((FpFmt.add_inf_left ha hb _).trans (by rw [State.inf_of_isInf ha]; rfl))
  case subLeft =>
    exact fpSignals_of_fpOp hcu1 hsub
      ((FpFmt.add_inf_left ha (FpFmt.isFinite_negate hb) _).trans (by rw [State.inf_of_isInf ha]; rfl))
  case divLeft => exact fpSignals_of_fpOp hcu1 hdiv (FpFmt.div_inf_left ha hb _)
  case mulLeftZero => exact fpSignals_of_fpOp hcu1 hmul (FpFmt.mul_inf_zero (.inl ⟨ha, hz⟩) _)
  case mulLeft => exact fpSignals_of_fpOp hcu1 hmul (FpFmt.mul_inf (.inl ⟨ha, .inr hn⟩) _)
  case addRight =>
    exact fpSignals_of_fpOp hcu1 hadd ((FpFmt.add_inf_right ha hb _).trans (by rw [State.inf_of_isInf hb]; rfl))
  case subRight =>
    exact fpSignals_of_fpOp hcu1 hsub
      ((FpFmt.add_inf_right ha (FpFmt.isInf_negate hb) _).trans (by rw [FpFmt.neg_negate]; rfl))
  case divRight => exact fpSignals_of_fpOp hcu1 hdiv (FpFmt.div_inf_right ha hb _)
  case mulRightZero => exact fpSignals_of_fpOp hcu1 hmul (FpFmt.mul_inf_zero (.inr ⟨hz, hb⟩) _)
  case mulRight => exact fpSignals_of_fpOp hcu1 hmul (FpFmt.mul_inf (.inr ⟨hn, hb⟩) _)
  case sqrtInf =>
    refine fpSignals_of_fpOp hcu1 hsqrt ((FpFmt.sqrt_of_isInf ha _).trans ?_)
    rw [State.inf_of_isInf ha]
    exact if_neg (Bool.eq_false_iff.1 hpos)
  case sqrtNegInf => exact fpSignals_of_fpOp hcu1 hsqrt ((FpFmt.sqrt_of_isInf ha _).trans (if_pos hneg))

/-! ### The sign bit alone (R441 to R443) -/

/-- An operand that the input check lets through. -/
theorem checkInput_of_number (h : f.isNormal a ∨ f.isZero a ∨ f.isInf a) : checkInput dst (f.classify a) k = k := by
  rcases h with h | h | h
  · rw [FpFmt.classify_of_isNormal h]; rfl
  · rw [FpFmt.classify_of_isZero h]; rfl
  · rw [FpFmt.classify_of_isInf h]; rfl

theorem FpFmt.abs_of_number (h : f.isNormal a ∨ f.isZero a ∨ f.isInf a) :
    f.abs a = .exact (a &&& ~~~BitVec.twoPow 64 (f.frac + f.expBits)) := by
  rw [FpFmt.abs, checkInput_of_number h]
  cases f <;> rfl

theorem FpFmt.negAnswer_of_number (h : f.isNormal a ∨ f.isZero a ∨ f.isInf a) :
    f.negAnswer a = .exact (f.negate a) := by
  rw [FpFmt.negAnswer, checkInput_of_number h]

theorem FpFmt.sign_lt (f : FpFmt) : f.frac + f.expBits < 64 := by cases f <;> decide

theorem FpFmt.and_not_sign_getLsbD (f : FpFmt) (a : Dword) {k : ℕ} (hk : k < 64) (hne : k ≠ f.frac + f.expBits) :
    (a &&& ~~~BitVec.twoPow 64 (f.frac + f.expBits)).getLsbD k = a.getLsbD k := by
  rw [BitVec.getLsbD_and, BitVec.getLsbD_not, BitVec.getLsbD_twoPow]
  simp [hk, hne.symm]

theorem FpFmt.negate_getLsbD (f : FpFmt) (a : Dword) {k : ℕ} (hk : k ≠ f.frac + f.expBits) :
    (f.negate a).getLsbD k = a.getLsbD k := by
  rw [FpFmt.negate_eq, BitVec.getLsbD_xor, BitVec.getLsbD_twoPow]
  simp [hk.symm]

/-- Settles O56: ABS clears the sign bit, NEG inverts it, MOV writes what it read. -/
theorem fpAbsNegMov : Obligations.FpAbsNegMov := by
  intro f s fd fs hcu1 a sign cell
  refine ⟨fun h => ⟨⟨_, fpSignals_of_fpOp hcu1 (exec_absFmt s f fd fs) (FpFmt.abs_of_number h), ?_,
        fun k hk hne => f.and_not_sign_getLsbD a hk hne⟩,
      ⟨_, fpSignals_of_fpOp hcu1 (exec_negFmt s f fd fs) (FpFmt.negAnswer_of_number h), f.neg_negate a,
        fun k _ hne => f.negate_getLsbD a hne⟩⟩,
    ⟨_, (exec_movFmt s f fd fs).trans (State.checkCop1_of hcu1 _), s.changesOnly_fpWrite f fd a,
      s.writesFp_fpWrite f fd a⟩⟩
  simp [sign, f.sign_lt]

end Sys2Proof.Machine
end

section
/-!
Proofs/FpuConvert: the conversions (47_fpu_arith R452, R453, R473; obligations O57, O58). To fixed point the rounding is
that of Proofs/FpuRounding with the unit 1; to floating point an integer, or the value of the other format, goes to
CheckOutput.
-/

namespace Sys2Proof.Machine

variable {f g : FpFmt} {src dst : FxFmt} {mode : Rounding} {fcr : Word} {s : State} {i : Instr} {fd fs : FReg}
  {a : Dword} {m : ℕ} {e k l v : ℤ} {cell : Part → Prop}

/-! ### To fixed point (R473) -/

theorem toFixed_of_isZero (h : f.isZero a) (dst : FxFmt) (mode : Rounding) : toFixed f dst mode a = .exact 0#64 := by
  rw [toFixed, FpFmt.classify_of_isZero h]

/-- What is not finite, or subnormal, is not converted. -/
theorem toFixed_of_special (h : f.isSubnormal a ∨ f.isInf a ∨ f.isQNaN a ∨ f.isSNaN a) (dst : FxFmt)
    (mode : Rounding) : toFixed f dst mode a = .unimplemented := by
  rw [toFixed]
  rcases h with h | h | h | h
  · rw [FpFmt.classify_of_isSubnormal h]
  · rw [FpFmt.classify_of_isInf h]
  · rw [FpFmt.classify_of_isQNaN h]
  · rw [FpFmt.classify_of_isSNaN h]

/-- The range of L is that of the operand's exponent, the range of W that of the rounded integer. -/
theorem FpFmt.NormalAs.outOfRange_iff (ha : f.NormalAs a m e) (dst : FxFmt) (k : ℤ) :
    dst.outOfRange k m e = true ↔ ¬ dst.inRange (f.number a) k := by
  cases dst with
  | word =>
    rw [FxFmt.outOfRange, FxFmt.inRange, decide_eq_true_iff]
    omega
  | long =>
    obtain ⟨hlow, hhigh⟩ := (magnitude_exact m e).log2_bounds ha.pos
    have hpos : (0 : ℝ) < m := by exact_mod_cast ha.pos
    have habs : ((|f.number a| : ℚ) : ℝ) = m * 2 ^ e := by
      rw [Rat.cast_abs, ha.real, abs_withSign, abs_of_pos (by positivity)]
    have hrange : |f.number a| < 2 ^ 53 ↔ (m : ℝ) * 2 ^ e < 2 ^ (53 : ℤ) := by
      rw [← habs]
      norm_cast
    rw [FxFmt.outOfRange, FxFmt.inRange, decide_eq_true_iff, hrange, not_lt]
    constructor
    · exact fun h => (zpow_le_zpow_right₀ one_le_two h).trans hlow
    · exact fun h => Int.lt_add_one_iff.1 ((zpow_lt_zpow_iff_right₀ one_lt_two).1 (h.trans_lt hhigh))

/-- The conversion of a finite operand: the integer nearest in the mode's direction, when it is in range. -/
theorem toFixed_spec (h : f.isFinite a) (dst : FxFmt) (mode : Rounding) : ∃ k : ℤ, roundedToInt mode (f.number a) k
    ∧ (dst.inRange (f.number a) k →
        toFixed f dst mode a = { exc := if (k : ℚ) = f.number a then fpNone else fpI, val := BitVec.ofInt 64 k })
    ∧ (¬ dst.inRange (f.number a) k → toFixed f dst mode a = .unimplemented) := by
  rcases h with h | h
  · have ha := FpFmt.normalAs_of_isNormal h
    generalize 2 ^ f.frac + f.fracField a = m at ha
    generalize (f.expField a - f.bias - f.frac : ℤ) = e at ha
    obtain ⟨hround, hinexact⟩ := roundTo_spec (magnitude_exact m e) (q := 0) nofun mode (f.neg a)
    have hclass : toFixed f dst mode a =
        let r := roundTo mode (f.neg a) m e false 0
        if dst.outOfRange (signedInt (f.neg a) r.1) m e then .unimplemented
        else { exc := if r.2 then fpI else fpNone, val := BitVec.ofInt 64 (signedInt (f.neg a) r.1) } := by
      rw [toFixed, ha.classify]
    generalize roundTo mode (f.neg a) m e false 0 = r at *
    obtain ⟨n, inexact⟩ := r
    rw [zpow_zero, div_one] at hround hinexact
    rw [← ha.real] at hround
    have hexact : ((signedInt (f.neg a) n : ℤ) : ℚ) = f.number a ↔ ¬ inexact = true := by
      rw [hinexact, not_not, ← Rat.cast_inj (α := ℝ), Rat.cast_intCast, cast_signedInt, ha.real]
      cases f.neg a <;> simp [eq_comm]
    refine ⟨signedInt (f.neg a) n, (roundedToInt_iff ..).2 hround, fun hin => ?_, fun hout => ?_⟩
    · rw [hclass]
      dsimp only
      rw [if_neg (mt (ha.outOfRange_iff dst _).1 (not_not.2 hin)), if_congr hexact rfl rfl, ite_not]
    · exact hclass.trans (if_pos ((ha.outOfRange_iff dst _).2 hout))
  · have hnum := FpFmt.number_of_isZero h
    refine ⟨0, ?_, fun _ => ?_, fun hout => (hout ?_).elim⟩
    · rw [roundedToInt_iff, hnum]
      exact_mod_cast roundsTo_self mode 0
    · rw [toFixed_of_isZero h, hnum, if_pos Int.cast_zero]
      rfl
    · rw [hnum]
      cases dst <;> norm_num [FxFmt.inRange]

/-- Cause E is signalled whatever is said of the result. -/
theorem fpSignals_of_unimplemented_fx {ans : FpAnswer} (hcu1 : s.cu1 = true) (hexec : exec i s = s.fxOp dst fd ans)
    (hans : ans = .unimplemented) : fpSignals i s fpE (fun p => p = .fpr (s.fprCell fd)) fun _ => True :=
  fpSignals_mono (fpSignals_of_fxOp (n := 0) hcu1 hexec hans) fun _ _ => trivial

theorem fpSignals_of_unimplemented {ans : FpAnswer} (hcu1 : s.cu1 = true) (hexec : exec i s = s.fpOp f fd ans)
    (hans : ans = .unimplemented) : fpSignals i s fpE (fun p => p = .fpr (s.fprCell fd)) fun _ => True :=
  fpSignals_mono (fpSignals_of_fpOp hcu1 hexec hans) fun _ _ => trivial

/-- Settles O57: both families are `toFixed` in a mode, their own or FCR31's. -/
theorem fpToFixedPoint : Obligations.FpToFixedPoint := by
  intro f dst mode s fd fs hcu1 a x cell converts
  have hconverts : ∀ {i m}, exec i s = s.fxOp dst fd (toFixed f dst m a) → converts i m := fun {i m} hexec =>
    have hfinite (h : f.isFinite a) : _ := by
      obtain ⟨k, hround, hin, hout⟩ := toFixed_spec h dst m
      exact ⟨k, hround, fun hr => fpSignals_of_fxOp hcu1 hexec (hin hr),
        fun hr => fpSignals_of_unimplemented_fx hcu1 hexec (hout hr)⟩
    ⟨fun h => fpSignals_of_unimplemented_fx hcu1 hexec (toFixed_of_special h dst m), hfinite⟩
  exact ⟨hconverts (exec_toFxFmt ..), hconverts (exec_cvtToFxFmt ..)⟩

/-! ### From fixed point (R452, R453) -/

/-- An L operand is converted within 56 bits, a W operand always. -/
theorem exec_cvtFromFxFmt (s : State) (f : FpFmt) (fd fs : FReg)
    (h : src = .word ∨ -2 ^ 55 ≤ s.fxRead src fs ∧ s.fxRead src fs < 2 ^ 55) :
    exec (.cvtFromFxFmt f src fd fs) s = s.fpOp f fd (cvtInt f s.fcr31 (s.fxRead src fs)) := by
  cases src with
  | word => cases f <;> rfl
  | long =>
    obtain ⟨hlow, hhigh⟩ := h.resolve_left nofun
    have hlong : cvtLong f s.fcr31 (s.fxRead .long fs) = cvtInt f s.fcr31 (s.fxRead .long fs) := if_neg (by omega)
    rw [← hlong]
    cases f <;> rfl

theorem exec_cvtFromFxFmt_outside (s : State) (f : FpFmt) (fd fs : FReg)
    (h : ¬ (src = .word ∨ -2 ^ 55 ≤ s.fxRead src fs ∧ s.fxRead src fs < 2 ^ 55)) :
    exec (.cvtFromFxFmt f src fd fs) s = s.fpOp f fd .unimplemented := by
  cases src with
  | word => exact (h (.inl rfl)).elim
  | long =>
    have hlong : cvtLong f s.fcr31 (s.fxRead .long fs) = .unimplemented :=
      if_pos (by have := fun hl hh => h (.inr ⟨hl, hh⟩); omega)
    rw [← hlong]
    cases f <;> rfl

theorem cvtInt_answers (hv : v ≠ 0) (f : FpFmt) (fcr : Word) : f.answers fcr (v : ℝ) (cvtInt f fcr v) := by
  have h := f.finish_answers_int fcr hv 0
  rw [zpow_zero, mul_one] at h
  rwa [cvtInt, if_neg hv]

theorem cvtInt_zero (hv : v = 0) (f : FpFmt) (fcr : Word) : cvtInt f fcr v = .exact (f.zero false) := if_pos hv

/-! ### Between the formats (R452, R453) -/

theorem cvtFloat_answers (h : f.isNormal a) (g : FpFmt) (fcr : Word) :
    g.answers fcr ((f.number a : ℚ) : ℝ) (cvtFloat f g fcr a) := by
  have ha := FpFmt.normalAs_of_isNormal h
  rw [cvtFloat, ha.classify, ha.real]
  exact g.finish_answers_exact fcr _ ha.pos _

theorem cvtFloat_of_isZero (h : f.isZero a) (g : FpFmt) (fcr : Word) :
    cvtFloat f g fcr a = .exact (g.zero (f.neg a)) := by
  rw [cvtFloat, FpFmt.classify_of_isZero h]
  rfl

theorem cvtFloat_of_isInf (h : f.isInf a) (g : FpFmt) (fcr : Word) :
    cvtFloat f g fcr a = .exact (g.inf (f.neg a)) := by
  rw [cvtFloat, FpFmt.classify_of_isInf h]
  rfl

/-- Settles O58: from W and L by `cvtInt`, between the formats by `cvtFloat`. -/
theorem fpFromFixedPointAndBetweenFormats : Obligations.FpFromFixedPointAndBetweenFormats := by
  intro s fd fs hcu1 cell
  constructor
  · intro f src v i inRange
    refine ⟨fun hin hv => ?round, fun hv => ?zero, fun hout => ?outside⟩
    case round => exact ⟨_, cvtInt_answers hv f _, fpSignals_of_fpOp hcu1 (exec_cvtFromFxFmt s f fd fs hin) rfl⟩
    case zero =>
      have hin : src = .word ∨ -2 ^ 55 ≤ v ∧ v < 2 ^ 55 := .inr (by omega)
      exact fpSignals_of_fpOp hcu1 (exec_cvtFromFxFmt s f fd fs hin) (cvtInt_zero hv f _)
    case outside => exact fpSignals_of_unimplemented hcu1 (exec_cvtFromFxFmt_outside s f fd fs hout) rfl
  · intro f g i hi a
    have hexec : exec i s = s.fpOp g fd (cvtFloat f g s.fcr31 a) := by
      rcases hi with ⟨rfl, rfl, rfl⟩ | ⟨rfl, rfl, rfl⟩ <;> rfl
    exact ⟨fun h => ⟨_, cvtFloat_answers h g _, fpSignals_of_fpOp hcu1 hexec rfl⟩,
      fun h => fpSignals_of_fpOp hcu1 hexec (cvtFloat_of_isZero h g _),
      fun h => fpSignals_of_fpOp hcu1 hexec (cvtFloat_of_isInf h g _),
      fun h => fpSignals_of_unimplemented hcu1 hexec (checkInput_of_refuses h),
      fun h => fpSignals_of_fpOp hcu1 hexec (checkInput_of_isSNaN h)⟩

end Sys2Proof.Machine
end

section
/-!
Proofs/FpuCompare: the comparisons (47_fpu_arith R456 to R472; obligation O59). The model orders patterns by their
magnitude bits; those order the numbers they stand for, with infinity above every one of them.
-/

namespace Sys2Proof.Machine

variable {f : FpFmt} {s : State} {cond : BitVec 4} {fs ft : FReg} {a b v : Dword} {e : FpExc} {c : Bool}

/-! ### Magnitude bits order magnitudes -/

/-- The integer of an exponent and a fraction field, in units of the smallest subnormal. -/
def FpFmt.units (f : FpFmt) (E F : ℕ) : ℕ := ((if E = 0 then 0 else 2 ^ f.frac) + F) * 2 ^ (max E 1 - 1)

theorem FpFmt.number_eq_units (f : FpFmt) (v : Dword) : f.number v =
    withSign (f.neg v) ((f.units (f.expField v) (f.fracField v) : ℚ) * 2 ^ (1 - f.bias - f.frac)) := by
  have hexp : ((max (f.expField v) 1 : ℕ) : ℤ) - f.bias - f.frac
      = ((max (f.expField v) 1 - 1 : ℕ) : ℤ) + (1 - f.bias - f.frac) := by omega
  rw [FpFmt.number_eq_withSign, hexp, zpow_add₀ two_ne_zero, zpow_natCast, FpFmt.units, Nat.cast_mul, mul_assoc]
  push_cast
  rfl

theorem FpFmt.units_succ (f : FpFmt) (E F : ℕ) : f.units (E + 1) F = (2 ^ f.frac + F) * 2 ^ E := by
  rw [FpFmt.units, if_neg (Nat.succ_ne_zero E), max_eq_left (Nat.succ_pos E), Nat.add_sub_cancel]

/-- Everything under an exponent field is less than the first magnitude of the next. -/
theorem FpFmt.units_lt {E F : ℕ} (hF : F < 2 ^ f.frac) : f.units E F < 2 ^ f.frac * 2 ^ E := by
  cases E with
  | zero => simpa [FpFmt.units] using hF
  | succ E =>
    rw [FpFmt.units_succ, pow_succ', ← mul_assoc]
    exact Nat.mul_lt_mul_of_pos_right (by omega) (Nat.two_pow_pos E)

theorem FpFmt.le_units (f : FpFmt) (E F : ℕ) : 2 ^ f.frac * 2 ^ E ≤ f.units (E + 1) F := by
  rw [FpFmt.units_succ]
  exact Nat.mul_le_mul_right _ (Nat.le_add_right ..)

/-- Magnitude bits order magnitudes: by the exponent field first, then by the fraction field. -/
theorem FpFmt.units_strictMono (f : FpFmt) : StrictMono fun n => f.units (n / 2 ^ f.frac) (n % 2 ^ f.frac) := by
  intro x y hxy
  have hx := Nat.mod_lt x (Nat.two_pow_pos f.frac)
  rcases (Nat.div_le_div_right hxy.le : x / 2 ^ f.frac ≤ y / 2 ^ f.frac).lt_or_eq with hlt | heq
  · obtain ⟨E, hE⟩ := Nat.exists_eq_add_of_lt hlt
    calc f.units (x / 2 ^ f.frac) (x % 2 ^ f.frac) < 2 ^ f.frac * 2 ^ (x / 2 ^ f.frac) := FpFmt.units_lt hx
      _ ≤ 2 ^ f.frac * 2 ^ (x / 2 ^ f.frac + E) := Nat.mul_le_mul_left _ (Nat.pow_le_pow_right two_pos (by omega))
      _ ≤ f.units (y / 2 ^ f.frac) (y % 2 ^ f.frac) := hE ▸ f.le_units ..
  · have hmod : x % 2 ^ f.frac < y % 2 ^ f.frac := by
      have := Nat.div_add_mod x (2 ^ f.frac)
      have := Nat.div_add_mod y (2 ^ f.frac)
      rw [heq] at *
      omega
    dsimp only
    rw [heq]
    exact Nat.mul_lt_mul_of_pos_right (by omega) (Nat.two_pow_pos _)

/-! ### Comparing by value -/

/-- The magnitude bits of infinity. -/
def FpFmt.infBits (f : FpFmt) : ℕ := (2 ^ f.expBits - 1) * 2 ^ f.frac

/-- The magnitude bits of a pattern. -/
def FpFmt.magnitudeBits (f : FpFmt) (v : Dword) : ℕ := v.toNat % 2 ^ (f.frac + f.expBits)

/-- The magnitude of magnitude bits, with infinity above every finite value of either format. -/
def FpFmt.magnitude (f : FpFmt) (n : ℕ) : ℚ :=
  if n = f.infBits then 2 ^ 1024 else f.units (n / 2 ^ f.frac) (n % 2 ^ f.frac) * 2 ^ (1 - f.bias - f.frac)

/-- The value of a pattern that is no NaN, as the comparisons order it. -/
def FpFmt.value (f : FpFmt) (v : Dword) : ℚ :=
  if f.isInf v then (if f.neg v then -(2 : ℚ) ^ 1024 else 2 ^ 1024) else f.number v

theorem FpFmt.magnitudeBits_eq (f : FpFmt) (v : Dword) :
    f.magnitudeBits v = f.fracField v + 2 ^ f.frac * f.expField v := by
  rw [FpFmt.magnitudeBits, pow_add, Nat.mod_mul]
  rfl

theorem FpFmt.magnitudeBits_div (f : FpFmt) (v : Dword) : f.magnitudeBits v / 2 ^ f.frac = f.expField v := by
  rw [FpFmt.magnitudeBits_eq, Nat.add_mul_div_left _ _ (Nat.two_pow_pos _),
    Nat.div_eq_of_lt (f.fracField_lt v), zero_add]

theorem FpFmt.magnitudeBits_mod (f : FpFmt) (v : Dword) : f.magnitudeBits v % 2 ^ f.frac = f.fracField v := by
  rw [FpFmt.magnitudeBits_eq, Nat.add_mul_mod_self_left, Nat.mod_eq_of_lt (f.fracField_lt v)]

theorem FpFmt.isInf_iff (f : FpFmt) (v : Dword) : f.isInf v ↔ f.magnitudeBits v = f.infBits := by
  constructor
  · rintro ⟨hexp, hfrac⟩
    rw [FpFmt.magnitudeBits_eq, hexp, hfrac, FpFmt.infBits, zero_add, mul_comm]
  · intro h
    rw [FpFmt.isInf, ← FpFmt.magnitudeBits_div, ← FpFmt.magnitudeBits_mod, h, FpFmt.infBits]
    exact ⟨Nat.mul_div_cancel _ (Nat.two_pow_pos _), Nat.mul_mod_left ..⟩

/-- What is no NaN is at most infinity. -/
theorem FpFmt.magnitudeBits_le (h : ¬ (f.isQNaN v ∨ f.isSNaN v)) : f.magnitudeBits v ≤ f.infBits := by
  rw [FpFmt.magnitudeBits_eq, FpFmt.infBits, mul_comm (2 ^ f.frac)]
  have hexp := f.expField_lt v
  have hfrac := f.fracField_lt v
  rcases Nat.lt_or_ge (f.expField v) (2 ^ f.expBits - 1) with hlt | hge
  · have := Nat.mul_le_mul_right (2 ^ f.frac) (Nat.succ_le_of_lt hlt)
    rw [Nat.succ_mul] at this
    omega
  · have hones : f.expField v = 2 ^ f.expBits - 1 := by omega
    have hzero : f.fracField v = 0 := by
      by_contra hne
      rcases Nat.lt_or_ge (f.fracField v) (2 ^ (f.frac - 1)) with hq | hs
      · exact h (.inl ⟨hones, hne, hq⟩)
      · exact h (.inr ⟨hones, hs⟩)
    rw [hzero, hones, zero_add]

theorem FpFmt.value_eq (f : FpFmt) (v : Dword) : f.value v = withSign (f.neg v) (f.magnitude (f.magnitudeBits v)) := by
  rw [FpFmt.value, FpFmt.magnitude, if_congr (f.isInf_iff v) rfl rfl, FpFmt.magnitudeBits_div, FpFmt.magnitudeBits_mod,
    FpFmt.number_eq_units]
  split <;> cases f.neg v <;> rfl

theorem FpFmt.orderKey_eq (f : FpFmt) (v : Dword) : f.orderKey v = withSign (f.neg v) (f.magnitudeBits v : ℤ) := rfl

/-- The first magnitude above the finite ones. -/
theorem FpFmt.units_infBits_le (f : FpFmt) :
    (f.units (f.infBits / 2 ^ f.frac) (f.infBits % 2 ^ f.frac) : ℚ) * 2 ^ (1 - f.bias - f.frac) ≤ 2 ^ 1024 := by
  obtain ⟨E, hE⟩ : ∃ E, 2 ^ f.expBits - 1 = E + 1 := Nat.exists_eq_succ_of_ne_zero f.expOnes_ne_zero
  have hexp : (f.frac : ℤ) + E + (1 - f.bias - f.frac) = f.top := by
    have := f.bias_eq
    have := f.top_eq
    omega
  rw [FpFmt.infBits, Nat.mul_div_cancel _ (Nat.two_pow_pos _), Nat.mul_mod_left, hE, f.units_succ, Nat.add_zero]
  calc ((2 ^ f.frac * 2 ^ E : ℕ) : ℚ) * 2 ^ (1 - f.bias - f.frac) = 2 ^ f.top := by
        rw [← hexp, zpow_add₀ two_ne_zero, zpow_add₀ two_ne_zero, zpow_natCast, zpow_natCast]
        push_cast
        rfl
    _ ≤ 2 ^ (1024 : ℤ) := zpow_le_zpow_right₀ one_le_two (by cases f <;> decide)
    _ = 2 ^ 1024 := zpow_ofNat ..

theorem FpFmt.magnitude_strictMonoOn (f : FpFmt) : StrictMonoOn f.magnitude (Set.Iic f.infBits) := by
  intro x hx y hy hxy
  have hunits : (f.units (x / 2 ^ f.frac) (x % 2 ^ f.frac) : ℚ) * 2 ^ (1 - f.bias - f.frac)
      < f.units (y / 2 ^ f.frac) (y % 2 ^ f.frac) * 2 ^ (1 - f.bias - f.frac) :=
    mul_lt_mul_of_pos_right (by exact_mod_cast f.units_strictMono hxy) (by positivity)
  rw [FpFmt.magnitude, FpFmt.magnitude, if_neg (hxy.trans_le hy).ne]
  split
  · next h => exact (h ▸ hunits).trans_le f.units_infBits_le
  · exact hunits

/-- Signed magnitudes are ordered as their signed bits are, and the two zeros are equal. -/
theorem withSign_lt_withSign_iff {M : ℕ → ℚ} {c : ℕ} (h0 : M 0 = 0) (hM : StrictMonoOn M (Set.Iic c)) {x y : ℕ}
    (hx : x ≤ c) (hy : y ≤ c) (m n : Bool) :
    withSign m (M x) < withSign n (M y) ↔ withSign m (x : ℤ) < withSign n (y : ℤ) := by
  have hzero : 0 ≤ c := Nat.zero_le c
  have hpos : ∀ {z}, z ≤ c → 0 ≤ M z ∧ (0 < M z ↔ 0 < z) := fun {z} hz => by
    have hlt := hM.lt_iff_lt (Set.mem_Iic.2 hzero) (Set.mem_Iic.2 hz)
    have hle := hM.le_iff_le (Set.mem_Iic.2 hzero) (Set.mem_Iic.2 hz)
    rw [h0] at hlt hle
    exact ⟨hle.2 (Nat.zero_le z), hlt⟩
  obtain ⟨hx0, hxpos⟩ := hpos hx
  obtain ⟨hy0, hypos⟩ := hpos hy
  cases m <;> cases n <;> simp only [withSign_false, withSign_true]
  case false.false => rw [hM.lt_iff_lt hx hy, Nat.cast_lt]
  case true.true => rw [neg_lt_neg_iff, neg_lt_neg_iff, hM.lt_iff_lt hy hx, Nat.cast_lt]
  case false.true => exact iff_of_false (by linarith) (by omega)
  case true.false =>
    have hrat : -M x < M y ↔ 0 < M x ∨ 0 < M y := by
      rw [neg_lt_iff_pos_add', hx0.lt_iff_ne', hy0.lt_iff_ne', (add_nonneg hx0 hy0).lt_iff_ne', ne_eq,
        add_eq_zero_iff_of_nonneg hx0 hy0, not_and_or]
    rw [hrat, hxpos, hypos]
    omega

theorem FpFmt.magnitude_zero (f : FpFmt) : f.magnitude 0 = 0 := by
  have hne : 0 ≠ f.infBits := by cases f <;> decide
  rw [FpFmt.magnitude, if_neg hne]
  simp [FpFmt.units]

theorem FpFmt.value_lt_iff (ha : ¬ (f.isQNaN a ∨ f.isSNaN a)) (hb : ¬ (f.isQNaN b ∨ f.isSNaN b)) :
    f.value a < f.value b ↔ f.orderKey a < f.orderKey b := by
  rw [f.value_eq, f.value_eq, f.orderKey_eq, f.orderKey_eq]
  exact withSign_lt_withSign_iff f.magnitude_zero f.magnitude_strictMonoOn (FpFmt.magnitudeBits_le ha)
    (FpFmt.magnitudeBits_le hb) _ _

theorem FpFmt.value_eq_iff (ha : ¬ (f.isQNaN a ∨ f.isSNaN a)) (hb : ¬ (f.isQNaN b ∨ f.isSNaN b)) :
    f.value a = f.value b ↔ f.orderKey a = f.orderKey b := by
  rw [le_antisymm_iff, le_antisymm_iff, ← not_lt, ← not_lt, ← not_lt, ← not_lt, FpFmt.value_lt_iff ha hb,
    FpFmt.value_lt_iff hb ha]

/-! ### The comparison (R456) -/

theorem exec_compareFmt (s : State) (f : FpFmt) (cond : BitVec 4) (fs ft : FReg) :
    exec (.compareFmt f cond fs ft) s = s.fpCompare f cond fs ft := by
  obtain ⟨n, hn⟩ := cond
  cases f <;> interval_cases n <;> rfl

/-- A comparison whose cause does not trap writes C and nothing else besides the signals. -/
theorem exec_compareFmt_of_no_trap (hcu1 : s.cu1 = true)
    (he : f.compareExc cond (s.fpRead f fs) (s.fpRead f ft) = e) (hno : fpTraps s.fcr31 e = false)
    (hc : f.compare cond (s.fpRead f fs) (s.fpRead f ft) = c) :
    ∃ g, fcrSignals s.fcr31 g e ∧ exec (.compareFmt f cond fs ft) s = .next (s.setFcr31 (fcrSetC g c)) := by
  refine ⟨_, fcrSignals_addFlags .., ?_⟩
  rw [exec_compareFmt, State.fpCompare, he, hc, State.fpSignal_of_no_trap hcu1 hno]
  rfl

theorem exec_compareFmt_of_trap (hcu1 : s.cu1 = true)
    (he : f.compareExc cond (s.fpRead f fs) (s.fpRead f ft) = e) (htrap : fpTraps s.fcr31 e = true) :
    ∃ g, fcrTraps s.fcr31 g e
      ∧ exec (.compareFmt f cond fs ft) s = .next ((s.setFcr31 g).takeException .fpe) := by
  refine ⟨_, fcrTraps_addCause .., ?_⟩
  rw [exec_compareFmt, State.fpCompare, he, State.fpSignal_of_trap hcu1 htrap]

/-- The invalid operation traps when its enable is set. -/
theorem fpTraps_fpV (g : Word) : fpTraps g fpV = g.getLsbD 11 := by
  have hbit : ∀ e : BitVec 5, (fpV.getLsbD 5 || (fpV.extractLsb' 0 5 &&& e) != 0#5) = e.getLsbD 4 := by decide
  rw [fpTraps, hbit, fcrEnable]
  simp

theorem FpFmt.isNaN_iff (f : FpFmt) (v : Dword) : (f.classify v).isNaN = true ↔ f.isQNaN v ∨ f.isSNaN v := by
  rw [FpFmt.classify]
  have hpos := Nat.two_pow_pos (f.frac - 1)
  split_ifs with h1 h2 h3 h2 h3 <;> simp_all [FpDatum.isNaN, FpFmt.isQNaN, FpFmt.isSNaN]

theorem FpFmt.unordered_iff (f : FpFmt) (a b : Dword) :
    f.unordered a b = true ↔ (f.isQNaN a ∨ f.isSNaN a) ∨ (f.isQNaN b ∨ f.isSNaN b) := by
  rw [FpFmt.unordered, Bool.or_eq_true, FpFmt.isNaN_iff, FpFmt.isNaN_iff]

/-- Settles O59: with no NaN by value, with one by the condition's bits and the enable of the invalid operation. -/
theorem fpComparisons : Obligations.FpComparisons := by
  intro f cond s fs ft hcu1 a b i nan value writesC
  refine ⟨fun ha hb => ?ordered, fun hnan => ?unordered⟩
  case ordered =>
    have hun : f.unordered a b = false := Bool.eq_false_iff.2 fun h => ((f.unordered_iff a b).1 h).elim ha hb
    refine exec_compareFmt_of_no_trap hcu1 ?_ (fpTraps_fpNone _) ?_
    · rw [FpFmt.compareExc, hun]
      rfl
    · have hlt : value a < value b ↔ f.orderKey a < f.orderKey b := FpFmt.value_lt_iff ha hb
      have heq : value a = value b ↔ f.orderKey a = f.orderKey b := FpFmt.value_eq_iff ha hb
      rw [FpFmt.compare, hun]
      simp only [hlt, heq, Bool.not_false, Bool.true_and, Bool.and_false, Bool.or_false]
      rfl
  case unordered =>
    intro invalid
    have hun : f.unordered a b = true := (f.unordered_iff a b).2 hnan
    have hcmp : f.compare cond a b = cond.getLsbD 0 := by
      rw [FpFmt.compare, hun]
      simp
    have hexc : f.compareExc cond a b = if invalid then fpV else fpNone := by
      rw [FpFmt.compareExc, hun, Bool.true_and]
      refine if_congr ?_ rfl rfl
      rw [Bool.or_eq_true, Bool.or_eq_true, FpFmt.isSNaN_iff, FpFmt.isSNaN_iff, or_assoc]
    exact ⟨fun hv => exec_compareFmt_of_no_trap hcu1 (hexc.trans (if_neg hv)) (fpTraps_fpNone _) hcmp,
      fun hv hoff => exec_compareFmt_of_no_trap hcu1 (hexc.trans (if_pos hv)) ((fpTraps_fpV _).trans hoff) hcmp,
      fun hv hon => exec_compareFmt_of_trap hcu1 (hexc.trans (if_pos hv)) ((fpTraps_fpV _).trans hon)⟩

end Sys2Proof.Machine
end

section
/-!
Proofs/FpuComplete: no operation stops on operands the unit implements (47_fpu_arith R432 to R434, R456, R473;
obligation O60). Only cause E traps when nothing is enabled, and CheckOutput answers it for a tiny result only, which FS
flushes.
-/

namespace Sys2Proof.Machine

variable {f g dst : FpFmt} {fcr : Word} {s : State} {i : Instr} {e : FpExc} {fd : FReg} {a b : Dword} {x y : FpDatum}
  {k ans : FpAnswer} {w : Part → Prop} {post : State → Prop}

/-! ### Answers without cause E -/

/-- The answer is not that of an unimplemented operation. -/
abbrev FpAnswer.Implemented (ans : FpAnswer) : Prop := ans.exc.getLsbD 5 = false

theorem implemented_of_exc (h : ans.exc = e) (he : e.getLsbD 5 = false := by decide) : ans.Implemented := by
  rw [FpAnswer.Implemented, h, he]

/-- A choice between two answers' causes, neither of them E. -/
theorem implemented_ite (p : Prop) [Decidable p] {e e' : FpExc} (v : Dword) (he : e.getLsbD 5 = false := by decide)
    (he' : e'.getLsbD 5 = false := by decide) : FpAnswer.Implemented ⟨if p then e else e', v⟩ :=
  implemented_of_exc rfl (by split <;> assumption)

theorem implemented_exact (v : Dword) : (FpAnswer.exact v).Implemented := implemented_of_exc (e := fpNone) rfl

theorem implemented_invalid (f : FpFmt) : (FpAnswer.invalid f).Implemented := implemented_of_exc (e := fpV) rfl

/-- Tiny results are flushed when FS is set and neither underflow nor inexact is enabled. -/
theorem fcrTinyTraps_of_flush (hen : fcrEnable fcr = 0#5) (hfs : fcr.getLsbD 24 = true) : fcrTinyTraps fcr = false := by
  rw [fcrTinyTraps, fcrFS, hen, hfs]
  rfl

section Flushing

variable (hflush : fcrTinyTraps fcr = false)

include hflush

theorem implemented_finish (f : FpFmt) (neg : Bool) (mant : ℕ) (exp : ℤ) (rest : Bool) :
    (f.finish fcr neg mant exp rest).Implemented := by
  rw [FpFmt.finish]
  dsimp only
  split
  · rw [hflush]
    exact implemented_of_exc (e := fpUI) rfl
  · split
    · exact implemented_of_exc (e := fpOI) rfl
    · exact implemented_ite ..

theorem implemented_addNormal (f : FpFmt) (na nb : Bool) (ma mb : ℕ) (ea eb : ℤ) :
    (f.addNormal fcr na ma ea nb mb eb).Implemented := by
  rw [FpFmt.addNormal_eq]
  split
  · exact implemented_exact _
  · exact implemented_finish hflush ..

/-- The data that the input check lets through (R433). -/
inductive FpDatum.Number : FpDatum → Prop
  | zero (neg : Bool) : Number (.zero neg)
  | normal (neg : Bool) (mant : ℕ) (exp : ℤ) : Number (.normal neg mant exp)
  | inf (neg : Bool) : Number (.inf neg)

omit hflush in
theorem FpDatum.number_of_checked (hr : x.refused = false) (hs : x.isSNaN = false) : x.Number := by
  cases x with
  | zero n => exact .zero n
  | normal n m e => exact .normal n m e
  | inf n => exact .inf n
  | subnormal | qnan => exact Bool.noConfusion hr
  | snan => exact Bool.noConfusion hs

theorem implemented_addDatum (f : FpFmt) (hx : x.Number) (hy : y.Number) (va vb : Dword) :
    (f.addDatum fcr x y va vb).Implemented := by
  cases hx <;> cases hy
  case normal.normal => exact implemented_addNormal hflush ..
  case inf.inf na nb =>
    rw [FpFmt.addDatum]
    split
    · exact implemented_exact _
    · exact implemented_invalid f
  all_goals exact implemented_exact _

theorem implemented_mulDatum (f : FpFmt) (hx : x.Number) (hy : y.Number) : (f.mulDatum fcr x y).Implemented := by
  cases hx <;> cases hy
  case normal.normal => exact implemented_finish hflush ..
  case zero.inf | inf.zero => exact implemented_invalid f
  all_goals exact implemented_exact _

theorem implemented_divDatum (f : FpFmt) (hx : x.Number) (hy : y.Number) : (f.divDatum fcr x y).Implemented := by
  cases hx <;> cases hy
  case normal.normal => exact implemented_finish hflush ..
  case normal.zero => exact implemented_of_exc (e := fpZ) rfl
  case zero.zero | inf.inf => exact implemented_invalid f
  all_goals exact implemented_exact _

end Flushing

theorem implemented_checkInputs (ha : ¬ f.refuses a) (hb : ¬ f.refuses b)
    (h : (f.classify a).Number → (f.classify b).Number → k.Implemented) :
    (checkInputs dst (f.classify a) (f.classify b) k).Implemented := by
  rw [← f.refused_iff, Bool.not_eq_true] at ha hb
  rw [checkInputs, ha, hb]
  cases hsa : (f.classify a).isSNaN with
  | true => exact implemented_invalid dst
  | false =>
    cases hsb : (f.classify b).isSNaN with
    | true => exact implemented_invalid dst
    | false => exact h (FpDatum.number_of_checked ha hsa) (FpDatum.number_of_checked hb hsb)

theorem implemented_checkInput (ha : ¬ f.refuses a) (h : (f.classify a).Number → k.Implemented) :
    (checkInput dst (f.classify a) k).Implemented := by
  rw [← f.refused_iff, Bool.not_eq_true] at ha
  rw [checkInput, ha]
  cases hsa : (f.classify a).isSNaN with
  | true => exact implemented_invalid dst
  | false => exact h (FpDatum.number_of_checked ha hsa)

theorem FpFmt.refuses_negate (f : FpFmt) (v : Dword) : f.refuses (f.negate v) ↔ f.refuses v := by
  rw [← FpFmt.refused_iff, FpFmt.refused_negate, FpFmt.refused_iff]

theorem implemented_sqrt (hflush : fcrTinyTraps fcr = false) (ha : ¬ f.refuses a) : (f.sqrt fcr a).Implemented := by
  refine implemented_checkInput ha fun hnum => ?_
  generalize f.classify a = x at hnum
  cases hnum with
  | zero n => exact implemented_exact _
  | normal n m e =>
    cases n with
    | true => exact implemented_invalid f
    | false => exact implemented_finish hflush ..
  | inf n =>
    cases n with
    | true => exact implemented_invalid f
    | false => exact implemented_exact _

theorem implemented_cvtFloat (hflush : fcrTinyTraps fcr = false) (ha : ¬ f.refuses a) (g : FpFmt) :
    (cvtFloat f g fcr a).Implemented := by
  refine implemented_checkInput ha fun hnum => ?_
  generalize f.classify a = x at hnum
  cases hnum with
  | zero n => exact implemented_exact _
  | normal n m e => exact implemented_finish hflush ..
  | inf n => exact implemented_exact _

theorem implemented_cvtInt (hflush : fcrTinyTraps fcr = false) (f : FpFmt) (v : ℤ) : (cvtInt f fcr v).Implemented := by
  rw [cvtInt]
  split
  · exact implemented_exact _
  · exact implemented_finish hflush ..

/-- An integer in range is converted, whatever the mode that rounds to it. -/
theorem implemented_toFixed {dst : FxFmt} {mode : Rounding} {n : ℤ} (ha : f.isFinite a)
    (hin : dst.inRange (f.number a) n) (hn : roundedToInt mode (f.number a) n) :
    (toFixed f dst mode a).Implemented := by
  obtain ⟨n', hround, hconv, -⟩ := toFixed_spec ha dst mode
  obtain rfl := roundedToInt_unique hn hround
  rw [hconv hin]
  exact implemented_ite ..

/-! ### Completion -/

/-- The instruction completes and signals something; FCR31 and the register alone change. -/
def CompletesFp (i : Instr) (s : State) (fd : FReg) : Prop :=
  ∃ e : FpExc, completes i s (fun p => p = .fcr31 ∨ p = .fpr (s.fprCell fd)) fun t => fcrSignals s.fcr31 t.fcr31 e

theorem completesFp_of_fpSignals (hen : fcrEnable s.fcr31 = 0#5) (he : e.getLsbD 5 = false)
    (h : fpSignals i s e (fun p => p = .fpr (s.fprCell fd)) post) : CompletesFp i s fd := by
  obtain ⟨t, hexec, hframe, hfcr, -⟩ := completes_of_fpSignals h (fpTraps_of_disabled hen he)
  exact ⟨e, t, hexec, hframe, hfcr⟩

theorem completesFp_of_fpOp (hcu1 : s.cu1 = true) (hen : fcrEnable s.fcr31 = 0#5) (hexec : exec i s = s.fpOp f fd ans)
    (hans : ans.Implemented) : CompletesFp i s fd :=
  completesFp_of_fpSignals hen hans (fpSignals_of_fpOp hcu1 hexec rfl)

theorem completesFp_of_fxOp {dst : FxFmt} (hcu1 : s.cu1 = true) (hen : fcrEnable s.fcr31 = 0#5)
    (hexec : exec i s = s.fxOp dst fd ans) (hans : ans.Implemented) : CompletesFp i s fd :=
  completesFp_of_fpSignals hen hans (fpSignals_of_fxOp (n := ans.val.toInt) hcu1 hexec (by rw [BitVec.ofInt_toInt]))

theorem compareExc_implemented (f : FpFmt) (cond : BitVec 4) (a b : Dword) :
    (f.compareExc cond a b).getLsbD 5 = false := by
  rw [FpFmt.compareExc]
  split <;> rfl

/-- Settles O60: every instruction is one operation whose answer, on these operands, is not cause E. -/
theorem fpOperationsComplete : Obligations.FpOperationsComplete := by
  intro f s fd fs ft mode cond hcu1 hen hfs a b done
  have hflush := fcrTinyTraps_of_flush hen hfs
  have hop : ∀ {g i ans}, exec i s = s.fpOp g fd ans → ans.Implemented → done i := completesFp_of_fpOp hcu1 hen
  have hfx : ∀ {g i ans}, exec i s = s.fxOp g fd ans → ans.Implemented → done i := completesFp_of_fxOp hcu1 hen
  refine ⟨fun ha hb => ⟨?add, ?sub, ?mul, ?div⟩, fun ha => ⟨?sqrt, ?abs, ?neg⟩, fun ha dst n hin => ⟨fun hn => ?toFx,
    fun hn => ?cvtToFx⟩, fun ha => ?cvtSD, fun ha => ?cvtDS, ?cvtSW, ?cvtDW, fun hin => ⟨?cvtSL, ?cvtDL⟩, ?compare⟩
  case add =>
    exact hop (exec_addFmt ..) (implemented_checkInputs ha hb fun h h' => implemented_addDatum hflush f h h' ..)
  case sub =>
    refine hop (exec_subFmt ..) (f.sub_eq_add_negate .. ▸ ?_)
    exact implemented_checkInputs ha (mt (f.refuses_negate b).1 hb) fun h h' => implemented_addDatum hflush f h h' ..
  case mul => exact hop (exec_mulFmt ..) (implemented_checkInputs ha hb (implemented_mulDatum hflush f))
  case div => exact hop (exec_divFmt ..) (implemented_checkInputs ha hb (implemented_divDatum hflush f))
  case sqrt => exact hop (exec_sqrtFmt ..) (implemented_sqrt hflush ha)
  case abs => exact hop (exec_absFmt ..) (implemented_checkInput ha fun _ => implemented_exact _)
  case neg => exact hop (exec_negFmt ..) (implemented_checkInput ha fun _ => implemented_exact _)
  case toFx => exact hfx (exec_toFxFmt ..) (implemented_toFixed ha hin hn)
  case cvtToFx => exact hfx (exec_cvtToFxFmt ..) (implemented_toFixed ha hin hn)
  case cvtSD => exact hop (g := .single) rfl (implemented_cvtFloat (f := .double) hflush ha .single)
  case cvtDS => exact hop (g := .double) rfl (implemented_cvtFloat (f := .single) hflush ha .double)
  case cvtSW => exact hop (exec_cvtFromFxFmt (src := .word) s .single fd fs (.inl rfl)) (implemented_cvtInt hflush ..)
  case cvtDW => exact hop (exec_cvtFromFxFmt (src := .word) s .double fd fs (.inl rfl)) (implemented_cvtInt hflush ..)
  case cvtSL => exact hop (exec_cvtFromFxFmt s .single fd fs (.inr hin)) (implemented_cvtInt hflush ..)
  case cvtDL => exact hop (exec_cvtFromFxFmt s .double fd fs (.inr hin)) (implemented_cvtInt hflush ..)
  case compare =>
    have hno := fpTraps_of_disabled hen (compareExc_implemented f cond a b)
    obtain ⟨g, -, hexec⟩ := exec_compareFmt_of_no_trap (fs := fs) (ft := ft) hcu1 rfl hno rfl
    exact ⟨_, hexec, s.changesOnly_setFcr31 _ rfl, trivial⟩

end Sys2Proof.Machine
end

section
/-!
Proofs/InstructionFrame: the frame of every instruction (obligation O19). A shared operation of a handler either goes on
or enters an exception, so it keeps whatever frame its continuation has; what is left of each instruction is the frame of
its own updates. An access outside memory adds what the platform has seen (20_memory R81, R86).
-/

namespace Sys2Proof.Machine

variable {i : Instr} {s t u : State} {w : Part → Prop} {r : Reg} {x va : Dword} {pa c : Word} {n : Nat} {kind : Access}

/-! ### The states exceptions are entered from (60_exceptions R504) -/

/-- What an instruction may have written when it takes an exception: the registers of the failing address, FCR31. -/
def raiseWrites : Part → Prop := fun p =>
  p = .cp0 .badVAddr ∨ p = .cp0 .context ∨ p = .cp0 .xContext ∨ p = .cp0 .entryHi ∨ p = .fcr31

theorem State.changesOnly_recordFaultAddress_raise (s : State) (va : Dword) :
    s.changesOnly (s.recordFaultAddress va) raiseWrites :=
  State.changesOnly_mono (s.changesOnly_recordFaultAddress va) fun p hp => by
    unfold raiseWrites
    tauto

theorem State.changesOnly_setFcr31_raise (s : State) (f : Word) : s.changesOnly (s.setFcr31 f) raiseWrites :=
  s.changesOnly_setFcr31 f (.inr (.inr (.inr (.inr rfl))))

theorem RaisesIn.changesOnly (h : RaisesIn i s u) : s.changesOnly u raiseWrites := by
  cases h with
  | unchanged => exact s.changesOnly_refl _
  | failingAddress va => exact s.changesOnly_recordFaultAddress_raise va
  | fpSignals f => exact s.changesOnly_setFcr31_raise f
  | fpControl v => exact s.changesOnly_setFcr31_raise _

theorem State.entersFrom_takeException (h : s.changesOnly u raiseWrites) (e : Exc) : s.entersFrom (u.takeException e) :=
  ⟨u, e, rfl, h⟩

/-- An exception that records no address. -/
theorem State.entersFrom_raise (s : State) (e : Exc) : s.entersFrom (s.takeException e) :=
  State.entersFrom_takeException (s.changesOnly_refl _) e

/-- An exception that records the failing address. -/
theorem State.entersFrom_raiseAt (s : State) (va : Dword) (e : Exc) :
    s.entersFrom ((s.recordFaultAddress va).takeException e) :=
  State.entersFrom_takeException (s.changesOnly_recordFaultAddress_raise va) e

/-! ### Results with a frame -/

/-- Whatever next state a result gives is the entry of an exception, or differs from `s` in the pieces of `w` alone. -/
def Framed (s : State) (w : Part → Prop) (res : Result) : Prop :=
  ∀ t, res = .next t → s.entersFrom t ∨ s.changesOnly t w

theorem Framed.next (h : s.changesOnly u w) : Framed s w (.next u) := by
  rintro t ⟨⟩
  exact .inr h

theorem Framed.raise (h : s.changesOnly u raiseWrites) (e : Exc) : Framed s w (u.raise e) := by
  rintro t ⟨⟩
  exact .inl (State.entersFrom_takeException h e)

theorem Framed.refused (why : Refusal) : Framed s w (.refused why) := nofun

/-! ### The checks of a handler -/

theorem Framed.check64 {k : Result} (h : s.ops64 = true → Framed s w k) : Framed s w (s.check64 k) := by
  intro t ht
  obtain ⟨h64, ht⟩ | rfl := State.check64_next ht
  · exact h h64 t ht
  · exact .inl (s.entersFrom_raise _)

theorem Framed.checkCop0 {k : Result} (h : Framed s w k) : Framed s w (s.checkCop0 k) := by
  intro t ht
  obtain ⟨-, ht⟩ | rfl := State.checkCop0_next ht
  · exact h t ht
  · exact .inl (s.entersFrom_raise _)

theorem Framed.checkCop1 {k : Result} (h : Framed s w k) : Framed s w (s.checkCop1 k) := by
  intro t ht
  obtain ⟨-, ht⟩ | rfl := State.checkCop1_next ht
  · exact h t ht
  · exact .inl (s.entersFrom_raise _)

theorem Framed.checkCop2 {k : Result} (h : Framed s w k) : Framed s w (s.checkCop2 k) := by
  intro t ht
  obtain ⟨-, ht⟩ | rfl := State.checkCop2_next ht
  · exact h t ht
  · exact .inl (s.entersFrom_raise _)

theorem Framed.setX (h : w (.gpr r)) : Framed s w (.next (s.setX r x)) := .next (s.changesOnly_setX r x h)

theorem Framed.checked {overflow : Bool} (h : w (.gpr r)) : Framed s w (s.checked overflow r x) := by
  intro t ht
  obtain ⟨-, rfl⟩ | ⟨-, rfl⟩ := State.checked_next ht
  · exact .inr (s.changesOnly_setX r x h)
  · exact .inl (s.entersFrom_raise _)

theorem Framed.trapIf {b : Bool} : Framed s w (s.trapIf b) := by
  intro t ht
  obtain ⟨-, hts⟩ | ⟨-, rfl⟩ := State.trapIf_next ht
  · exact .inr (hts ▸ s.changesOnly_refl w)
  · exact .inl (s.entersFrom_raise _)

/-! ### Branches (42_branch_jump R250 to R252) -/

theorem Framed.branch {b : Bool} {a : Dword} (hp : w .branchPending) (hn : w .nextPc) :
    Framed s w (.next (s.branch b a)) := .next (s.changesOnly_branch b a hp hn)

theorem Framed.branchLikely {b : Bool} {a : Dword} (hp : w .branchPending) (hn : w .nextPc) (hpc : w .pc) :
    Framed s w (.next (s.branchLikely b a)) := .next (s.changesOnly_branchLikely b a hp hn hpc)

theorem Framed.linkBranch {b : Bool} {a : Dword} (hp : w .branchPending) (hn : w .nextPc) (hr : w (.gpr r)) :
    Framed s w (.next ((s.setX r x).branch b a)) :=
  .next (State.changesOnly_trans (s.changesOnly_setX r x hr) (State.changesOnly_branch _ b a hp hn))

theorem Framed.linkBranchLikely {b : Bool} {a : Dword} (hp : w .branchPending) (hn : w .nextPc) (hpc : w .pc)
    (hr : w (.gpr r)) : Framed s w (.next ((s.setX r x).branchLikely b a)) :=
  .next (State.changesOnly_trans (s.changesOnly_setX r x hr) (State.changesOnly_branchLikely _ b a hp hn hpc))

/-! ### Memory accesses (20_memory R83, R84, R94) -/

theorem Framed.translated {k : Word → Result} (h : ∀ pa, s.translate va kind = .ok pa → Framed s w (k pa)) :
    Framed s w (s.translated va kind k) := by
  intro t ht
  obtain ⟨pa, hpa, ht⟩ | ⟨f, -, rfl⟩ := State.translated_next ht
  · exact h pa hpa t ht
  · exact .inl (s.entersFrom_raiseAt va _)

theorem Framed.load {k : Word → Result} (h : ∀ pa, s.reaches va n .load pa → Framed s w (k pa)) :
    Framed s w (s.load va n k) := by
  intro t ht
  obtain ⟨pa, hpa, ht⟩ | ⟨e, rfl⟩ := State.load_next ht
  · exact h pa hpa t ht
  · exact .inl (s.entersFrom_raiseAt va _)

theorem Framed.store {k : Word → Result} (h : ∀ pa, s.reaches va n .store pa → Framed s w (k pa)) :
    Framed s w (s.store va n k) := by
  intro t ht
  obtain ⟨pa, hpa, ht⟩ | ⟨e, rfl⟩ := State.store_next ht
  · exact h pa hpa t ht
  · exact .inl (s.entersFrom_raiseAt va _)

/-- A bus read, then a register write. -/
theorem Framed.readSetX (hr : w (.gpr r)) (hsee : s.isMemory c = false → w .busTrace) :
    Framed s w (.next ((s.afterRead c n).setX r x)) :=
  .next (State.changesOnly_trans (s.changesOnly_afterRead c n hsee) (State.changesOnly_setX _ r x hr))

/-- A bus read, a register write, and the reservation. -/
theorem Framed.readReserve (hr : w (.gpr r)) (hl : w .llbit) (ha : w (.cp0 .llAddr))
    (hsee : s.isMemory c = false → w .busTrace) :
    Framed s w (.next (((s.afterRead c n).setX r x).setReservation pa)) := by
  have hreserve := State.changesOnly_mono (w := w) (((s.afterRead c n).setX r x).changesOnly_setReservation pa)
    (by rintro p (rfl | rfl) <;> assumption)
  exact .next (State.changesOnly_trans (s.changesOnly_afterRead c n hsee)
    (State.changesOnly_trans (State.changesOnly_setX _ r x hr) hreserve))

/-- The cell of an FPR depends on Status alone. -/
theorem State.fprCell_congr (h : u.cp0 = s.cp0) (f : FReg) : u.fprCell f = s.fprCell f := by
  rw [State.fprCell, State.fprCell, State.fr, State.fr, h]

/-- A bus read, then a write of an FPR cell. -/
theorem Framed.readSetFpr {f : FReg} (hf : w (.fpr (s.fprCell f))) (hsee : s.isMemory c = false → w .busTrace) :
    Framed s w (.next ((s.afterRead c n).setFpr ((s.afterRead c n).fprCell f) x)) := by
  rw [← State.fprCell_congr (s.afterRead_cp0 c n) f] at hf
  exact .next (State.changesOnly_trans (s.changesOnly_afterRead c n hsee) (State.changesOnly_setFpr _ _ x hf))

/-- What an aligned load adds when it is not one of memory. -/
theorem State.loadSees_of_reaches (h : s.reaches va n .load pa) (hn : n ∣ 2 ^ 12) (hmem : s.isMemory pa = false) :
    s.loadSees va n .busTrace := by
  refine ⟨pa, h.2, ?_, rfl⟩
  rw [State.reaches_aligned h hn, BitVec.sub_zero]
  exact hmem

/-- What an unaligned load, of the container `c`, adds when it is not one of memory. -/
theorem State.loadSees_of_container (h : s.translate va .load = .ok pa) (hc : c = pa - BitVec.ofNat 32 (pa.toNat % n))
    (hmem : s.isMemory c = false) : s.loadSees va n .busTrace :=
  ⟨pa, h, hc ▸ hmem, rfl⟩

/-! ### Bus writes (20_memory R82, R86) -/

theorem State.changesOnly_storesAt (hr : s.reaches va n .store pa) (h : s.changesOnly u (s.storeWrites pa n)) :
    s.changesOnly u (s.storesAt va n) :=
  State.changesOnly_mono h fun _ hp => ⟨pa, hr.2, hp⟩

section
variable (hwf : s.mem.wf = true)
include hwf

theorem State.storesAt_busWrite8 {v : Byte} (hr : s.reaches va 1 .store pa) :
    s.changesOnly (s.busWrite8 pa v) (s.storesAt va 1) :=
  State.changesOnly_storesAt hr (State.busWrite8_stored hwf v).1

theorem State.storesAt_busWrite16 {v : Half} (hr : s.reaches va 2 .store pa) :
    s.changesOnly (s.busWrite16 pa v) (s.storesAt va 2) :=
  State.changesOnly_storesAt hr (State.busWrite16_stored hwf (State.reaches_aligned hr (by decide)) v).1

theorem State.storesAt_busWrite32 {v : Word} (hr : s.reaches va 4 .store pa) :
    s.changesOnly (s.busWrite32 pa v) (s.storesAt va 4) :=
  State.changesOnly_storesAt hr (State.busWrite32_stored hwf (State.reaches_aligned hr (by decide)) v).1

theorem State.storesAt_busWrite64 {v : Dword} (hr : s.reaches va 8 .store pa) :
    s.changesOnly (s.busWrite64 pa v) (s.storesAt va 8) :=
  State.changesOnly_storesAt hr (State.busWrite64_stored hwf (State.reaches_aligned hr (by decide)) v).1

end

/-- SC and SCD store only with the reservation held, and always write the register (43_load_store R312). -/
theorem Framed.storeConditional {written : Word → State}
    (h : ∀ pa, s.reaches va n .store pa → s.changesOnly (written pa) (s.storesAt va n)) :
    Framed s (fun p => p = .gpr r ∨ s.llbit = true ∧ s.storesAt va n p) (s.storeConditional va n r written) := by
  intro t ht
  obtain ⟨hl, pa, hr, rfl⟩ | ⟨-, rfl⟩ | ⟨e, rfl⟩ := State.storeConditional_next ht
  · exact .inr (State.changesOnly_trans (State.changesOnly_mono (h pa hr) fun _ hp => .inr ⟨hl, hp⟩)
      (State.changesOnly_setX _ r _ (.inl rfl)))
  · exact .inr (s.changesOnly_setX r _ (.inl rfl))
  · exact .inl (s.entersFrom_raiseAt va _)

/-- The partial stores as O43 has them, by the offset of the physical address in its container. -/
theorem unalignedStores_of_translate {rt b : Reg} {o : Imm16} (hwf : s.mem.wf = true)
    (htr : s.translate (s.effectiveAddress b o) .store = .ok pa) :
    let left := pa.toNat % 4
    let left8 := pa.toNat % 8
    mergesBytes (.swl rt b o) s (wordBase pa) 4 left (4 - left) (low32u (s.x rt) / 256 ^ left)
    ∧ mergesBytes (.swr rt b o) s (wordBase pa) 4 0 (left + 1) (s.x rt).toNat
    ∧ (s.ops64 = true →
        mergesBytes (.sdl rt b o) s (dwordBase pa) 8 left8 (8 - left8) ((s.x rt).toNat / 256 ^ left8)
        ∧ mergesBytes (.sdr rt b o) s (dwordBase pa) 8 0 (left8 + 1) (s.x rt).toNat) := by
  rw [wordBase_eq, dwordBase_eq, State.translate_offset htr (n := 4) (by decide),
    State.translate_offset htr (n := 8) (by decide)]
  exact unalignedStores s rt b o pa hwf htr

theorem changesOnly_of_mergesBytes {lo k v : Nat} (h : mergesBytes i s c n lo k v) (hexec : exec i s = .next u) :
    s.changesOnly u (s.mergeWrites c lo k) := by
  obtain ⟨t, ht, hframe, -⟩ := h
  obtain rfl : u = t := by simpa [hexec] using ht
  exact hframe

/-! ### Floating point (47_fpu_arith R432) -/

theorem Framed.fpSignal {e : FpExc} {k : State → Result} (h : ∀ f, Framed s w (k (s.setFcr31 f))) :
    Framed s w (s.fpSignal e k) := by
  intro t ht
  obtain ⟨-, -, ht⟩ | ⟨-, -, rfl⟩ | rfl := State.fpSignal_next ht
  · exact h _ t ht
  · exact .inl (State.entersFrom_takeException (s.changesOnly_setFcr31_raise _) _)
  · exact .inl (s.entersFrom_raise _)

section
variable (hfcr : w .fcr31)
include hfcr

theorem Framed.fpOp {fmt : FpFmt} {fd : FReg} {ans : FpAnswer} (hfd : w (.fpr (s.fprCell fd))) :
    Framed s w (s.fpOp fmt fd ans) := by
  refine .fpSignal fun f => .next (State.changesOnly_trans (s.changesOnly_setFcr31 f hfcr) ?_)
  exact State.changesOnly_mono (State.changesOnly_fpWrite _ fmt fd _) (by rintro p rfl; exact hfd)

theorem Framed.fxOp {fmt : FxFmt} {fd : FReg} {ans : FpAnswer} (hfd : w (.fpr (s.fprCell fd))) :
    Framed s w (s.fxOp fmt fd ans) := by
  refine .fpSignal fun f => .next (State.changesOnly_trans (s.changesOnly_setFcr31 f hfcr) ?_)
  exact State.changesOnly_mono (State.changesOnly_fxWrite _ fmt fd _) (by rintro p rfl; exact hfd)

end

theorem Framed.fpCompare {fmt : FpFmt} {cond : BitVec 4} {fs ft : FReg} :
    Framed s (· = .fcr31) (s.fpCompare fmt cond fs ft) :=
  .fpSignal fun f => .next (State.changesOnly_trans (s.changesOnly_setFcr31 f rfl) (State.changesOnly_setFcr31 _ _ rfl))

/-! ### The TLB (45_cp0 R376 to R378) -/

theorem Framed.withTlbIndex {m : BitVec 6} {k : Fin 32 → Result} (h : ∀ j : Fin 32, j.val = m.toNat → Framed s w (k j)) :
    Framed s w (s.withTlbIndex m k) := by
  unfold State.withTlbIndex
  split
  · exact h _ rfl
  · exact .refused _

theorem Framed.tlbwr : Framed s (Instr.mayWrite s .tlbwr) (execTlbwr s) := by
  refine .checkCop0 ?_
  split
  · exact .refused _
  · exact .withTlbIndex fun j hj => .next (s.changesOnly_setTlb j _ ⟨j, hj, rfl⟩)

theorem Framed.cp0Write {rd : BitVec 5} : Framed s (fun p => ∃ q, q ∈ Cp0Reg.written rd ∧ p = .cp0 q)
    (.next (s.setCp0 (s.cp0.write rd x))) :=
  .next (s.changesOnly_setCp0 _ fun q hq => s.cp0.write_agree x fun hw => hq ⟨q, hw, rfl⟩)

/-! ### FP control registers (46_fpu_move R404, R407) -/

theorem Framed.cfc1 {rt : Reg} {fs : FReg} : Framed s (· = .gpr rt) (execCfc1 rt fs s) := by
  refine .checkCop1 ?_
  split
  · exact .setX rfl
  · split
    · exact .setX rfl
    · exact .refused _

theorem Framed.ctc1 {rt : Reg} {fs : FReg} : Framed s (· = .fcr31) (execCtc1 rt fs s) := by
  refine .checkCop1 ?_
  split
  · unfold State.writeFcr31
    split
    · exact .raise (s.changesOnly_setFcr31_raise _) _
    · exact .next (s.changesOnly_setFcr31 _ rfl)
  · split
    · exact .next (s.changesOnly_refl _)
    · exact .refused _

/-! ### Every instruction -/

theorem exec_framed (hwf : s.mem.wf = true) (i : Instr) : Framed s (i.mayWrite s) (exec i s) := by
  cases i with
  | nop | sync | cache => exact .next (s.changesOnly_refl _)
  | add | sub | addi => exact .checked rfl
  | dadd | dsub | daddi => exact .check64 fun _ => .checked rfl
  | addu | subu | and | or | xor | nor | slt | sltu | addiu | slti | sltiu | andi | ori | xori | lui | sll | srl | sra
  | sllv | srlv | srav | mfhi | mflo => exact .setX rfl
  | daddu | dsubu | daddiu | dsll | dsrl | dsra | dsllv | dsrlv | dsrav | dsll32 | dsrl32 | dsra32 =>
    exact .check64 fun _ => .setX rfl
  | mult | multu | div | divu => exact .next (s.changesOnly_setHiLo _ _ (.inl rfl) (.inr rfl))
  | dmult | dmultu | ddiv | ddivu =>
    exact .check64 fun _ => .next (s.changesOnly_setHiLo _ _ (.inl rfl) (.inr rfl))
  | mthi => exact .next (s.changesOnly_setHiLo_hi _)
  | mtlo => exact .next (s.changesOnly_setHiLo_lo _)
  | j | jr | beq | bne | blez | bgtz | bltz | bgez => exact .branch (.inl rfl) (.inr rfl)
  | bc1f | bc1t => exact .checkCop1 (.branch (.inl rfl) (.inr rfl))
  | jal | jalr | bltzal | bgezal => exact .linkBranch (.inl rfl) (.inr (.inl rfl)) (.inr (.inr rfl))
  | beql | bnel | blezl | bgtzl | bltzl | bgezl => exact .branchLikely (.inl rfl) (.inr (.inl rfl)) (.inr (.inr rfl))
  | bc1fl | bc1tl => exact .checkCop1 (.branchLikely (.inl rfl) (.inr (.inl rfl)) (.inr (.inr rfl)))
  | bltzall | bgezall =>
    exact .linkBranchLikely (.inl rfl) (.inr (.inl rfl)) (.inr (.inr (.inl rfl))) (.inr (.inr (.inr rfl)))
  | lb | lbu | lh | lhu | lw =>
    exact .load fun _ hr => .readSetX (.inl rfl) fun hmem => .inr (State.loadSees_of_reaches hr (by decide) hmem)
  | ld | lwu =>
    exact .check64 fun _ => .load fun _ hr =>
      .readSetX (.inl rfl) fun hmem => .inr (State.loadSees_of_reaches hr (by decide) hmem)
  | lwl | lwr =>
    exact .translated fun pa htr =>
      .readSetX (.inl rfl) fun hmem => .inr (State.loadSees_of_container htr (wordBase_eq pa) hmem)
  | ldl | ldr =>
    exact .check64 fun _ => .translated fun pa htr =>
      .readSetX (.inl rfl) fun hmem => .inr (State.loadSees_of_container htr (dwordBase_eq pa) hmem)
  | ll =>
    exact .load fun _ hr => .readReserve (.inl rfl) (.inr (.inl rfl)) (.inr (.inr (.inl rfl))) fun hmem =>
      .inr (.inr (.inr (State.loadSees_of_reaches hr (by decide) hmem)))
  | lld =>
    exact .check64 fun _ => .load fun _ hr =>
      .readReserve (.inl rfl) (.inr (.inl rfl)) (.inr (.inr (.inl rfl))) fun hmem =>
        .inr (.inr (.inr (State.loadSees_of_reaches hr (by decide) hmem)))
  | lwc1 | ldc1 =>
    exact .checkCop1 (.load fun _ hr =>
      .readSetFpr (.inl rfl) fun hmem => .inr (State.loadSees_of_reaches hr (by decide) hmem))
  | sb => exact .store fun _ hr => .next (State.storesAt_busWrite8 hwf hr)
  | sh => exact .store fun _ hr => .next (State.storesAt_busWrite16 hwf hr)
  | sw => exact .store fun _ hr => .next (State.storesAt_busWrite32 hwf hr)
  | sd => exact .check64 fun _ => .store fun _ hr => .next (State.storesAt_busWrite64 hwf hr)
  | swc1 => exact .checkCop1 (.store fun _ hr => .next (State.storesAt_busWrite32 hwf hr))
  | sdc1 => exact .checkCop1 (.store fun _ hr => .next (State.storesAt_busWrite64 hwf hr))
  | swl rt =>
    refine .translated fun pa htr => .next (State.changesOnly_mono ?_ fun _ hp => ⟨pa, htr, hp⟩)
    obtain ⟨hswl, -⟩ := unalignedStores_of_translate (rt := rt) hwf htr
    exact changesOnly_of_mergesBytes hswl (State.translated_ok htr _)
  | swr rt =>
    refine .translated fun pa htr => .next (State.changesOnly_mono ?_ fun _ hp => ⟨pa, htr, hp⟩)
    obtain ⟨-, hswr, -⟩ := unalignedStores_of_translate (rt := rt) hwf htr
    exact changesOnly_of_mergesBytes hswr (State.translated_ok htr _)
  | sdl rt =>
    refine .check64 fun h64 => .translated fun pa htr => .next (State.changesOnly_mono ?_ fun _ hp => ⟨pa, htr, hp⟩)
    obtain ⟨-, -, hdouble⟩ := unalignedStores_of_translate (rt := rt) hwf htr
    obtain ⟨hsdl, -⟩ := hdouble h64
    exact changesOnly_of_mergesBytes hsdl ((State.check64_of h64 _).trans (State.translated_ok htr _))
  | sdr rt =>
    refine .check64 fun h64 => .translated fun pa htr => .next (State.changesOnly_mono ?_ fun _ hp => ⟨pa, htr, hp⟩)
    obtain ⟨-, -, hdouble⟩ := unalignedStores_of_translate (rt := rt) hwf htr
    obtain ⟨-, hsdr⟩ := hdouble h64
    exact changesOnly_of_mergesBytes hsdr ((State.check64_of h64 _).trans (State.translated_ok htr _))
  | sc => exact .storeConditional fun _ hr => State.storesAt_busWrite32 hwf hr
  | scd => exact .check64 fun _ => .storeConditional fun _ hr => State.storesAt_busWrite64 hwf hr
  | syscall | break_ => exact .raise (s.changesOnly_refl _) _
  | tge | tgeu | tlt | tltu | teq | tne | tgei | tgeiu | tlti | tltiu | teqi | tnei => exact .trapIf
  | cop2 => exact .checkCop2 (.refused _)
  | mfc0 => exact .checkCop0 (.setX rfl)
  | dmfc0 => exact .checkCop0 (.check64 fun _ => .setX rfl)
  | mtc0 => exact .checkCop0 .cp0Write
  | dmtc0 => exact .checkCop0 (.check64 fun _ => .cp0Write)
  | tlbr => exact .checkCop0 (.withTlbIndex fun _ _ => .next (s.changesOnly_readTlbEntry _))
  | tlbwi => exact .checkCop0 (.withTlbIndex fun j hj => .next (s.changesOnly_setTlb j _ ⟨j, hj, rfl⟩))
  | tlbwr => exact .tlbwr
  | tlbp => exact .checkCop0 (.next (s.changesOnly_setIndex _))
  | eret => exact .checkCop0 (.next s.changesOnly_returnFromException)
  | mfc1 => exact .checkCop1 (.setX rfl)
  | dmfc1 => exact .checkCop1 (.check64 fun _ => .setX rfl)
  | mtc1 => exact .checkCop1 (.next (s.changesOnly_setFgr32 _ _))
  | dmtc1 => exact .checkCop1 (.check64 fun _ => .next (s.changesOnly_setFgr64 _ _))
  | cfc1 => exact .cfc1
  | ctc1 => exact .ctc1
  | movS | movD => exact .checkCop1 (.next (s.changesOnly_fpWrite _ _ _))
  | addS | addD | subS | subD | mulS | mulD | divS | divD | sqrtS | sqrtD | absS | absD | negS | negD | cvtSD | cvtSW
  | cvtSL | cvtDS | cvtDW | cvtDL => exact .fpOp (.inl rfl) (.inr rfl)
  | roundLS | roundLD | truncLS | truncLD | ceilLS | ceilLD | floorLS | floorLD | roundWS | roundWD | truncWS | truncWD
  | ceilWS | ceilWD | floorWS | floorWD | cvtWS | cvtWD | cvtLS | cvtLD => exact .fxOp (.inl rfl) (.inr rfl)
  | cFS | cFD | cUnS | cUnD | cEqS | cEqD | cUeqS | cUeqD | cOltS | cOltD | cUltS | cUltD | cOleS | cOleD | cUleS | cUleD
  | cSfS | cSfD | cNgleS | cNgleD | cSeqS | cSeqD | cNglS | cNglD | cLtS | cLtD | cNgeS | cNgeD | cLeS | cLeD | cNgtS
  | cNgtD => exact .fpCompare

/-- Settles O19: each instruction goes through the shared operations, which keep a frame, to its own updates. -/
theorem instructionFrame : Obligations.InstructionFrame := fun i _ t hwf h => exec_framed hwf i t h

end Sys2Proof.Machine
end

section
/-!
Proofs/ExceptionEntry: taking an exception (60_exceptions R501 to R503; obligations O13, O14). Cause is read field by
field: BD, ExcCode and CE are replaced, the bits outside them stay. The six vectors lie in the unmapped segments.
-/

namespace Sys2Proof.Machine

variable {s : State} {e : Exc}

/-! ### Cause (R502 lines 1 and 3) -/

section
variable {w j n : Nat} {m k x y : BitVec w}

/-- Bits outside a mask are those of any value that agrees there. -/
theorem extract_congr_outside (h : x &&& ~~~m = y &&& ~~~m) (hm : (~~~m).extractLsb' j n = BitVec.allOnes n) :
    x.extractLsb' j n = y.extractLsb' j n := by
  have hx := congrArg (·.extractLsb' j n) h
  simpa only [BitVec.extractLsb'_and, hm, BitVec.and_allOnes] using hx

theorem getLsbD_congr_outside (h : x &&& ~~~m = y &&& ~~~m) (hm : (~~~m).getLsbD j = true) :
    x.getLsbD j = y.getLsbD j := by
  have hx := congrArg (·.getLsbD j) h
  simpa only [BitVec.getLsbD_and, hm, Bool.and_true] using hx

/-- Values that agree outside a mask agree outside every larger one. -/
theorem congr_outside_larger (h : x &&& ~~~k = y &&& ~~~k) (hk : ~~~k &&& ~~~m = ~~~m) :
    x &&& ~~~m = y &&& ~~~m := by
  rw [← hk, ← BitVec.and_assoc, h, BitVec.and_assoc]

/-- Setting the bits of a mask keeps the others. -/
theorem or_keeps_others (x m : BitVec w) : (x ||| m) &&& ~~~m = x &&& ~~~m := by
  rw [BitVec.and_or_distrib_right, BitVec.and_not_self]
  exact BitVec.or_zero

/-- A field that replaces masked out bits reads back. -/
theorem extract_replaced (x : BitVec w) (f : BitVec n) (hw : j + n ≤ w) (hm : (~~~m).extractLsb' j n = 0#n) :
    ((x &&& ~~~m) ||| (f.setWidth w <<< j)).extractLsb' j n = f := by
  rw [BitVec.extractLsb'_or, extract_masked x hm, extract_field f hw, BitVec.zero_or]

end

/-- Cause with BD as R502 line 1 leaves it. -/
def State.causeBd (s : State) : Word :=
  if s.inDelaySlot then s.cp0.cause ||| 0x80000000#32
  else if s.exl then s.cp0.cause else s.cp0.cause &&& ~~~0x80000000#32

/-- Cause with BD and ExcCode written. -/
def State.causeCoded (s : State) (e : Exc) : Word :=
  (s.causeBd &&& ~~~0x0000007C#32) ||| (e.code.setWidth 32 <<< 2)

theorem State.causeAfter_of_no_ce (h : e.ce = none) : s.causeAfter e = s.causeCoded e := by
  unfold State.causeAfter
  rw [h]
  rfl

theorem State.causeAfter_of_ce {c : BitVec 2} (h : e.ce = some c) :
    s.causeAfter e = (s.causeCoded e &&& ~~~0x30000000#32) ||| (c.setWidth 32 <<< 28) := by
  unfold State.causeAfter
  rw [h]
  rfl

theorem State.causeBd_others (s : State) : s.causeBd &&& ~~~0x80000000#32 = s.cp0.cause &&& ~~~0x80000000#32 := by
  unfold State.causeBd
  split
  · exact or_keeps_others ..
  · split
    · rfl
    · rw [BitVec.and_assoc, BitVec.and_self]

theorem State.causeBd_bd (s : State) :
    s.causeBd.getLsbD 31 = (s.inDelaySlot || (s.exl && s.cp0.cause.getLsbD 31)) := by
  unfold State.causeBd
  cases s.inDelaySlot <;> cases s.exl <;> simp

theorem State.causeCoded_others (s : State) (e : Exc) :
    s.causeCoded e &&& ~~~0x0000007C#32 = s.causeBd &&& ~~~0x0000007C#32 :=
  FitsMask.keeps_others (.field e.code 2 rfl) _

/-- Besides CE, which is written only with a coprocessor number, Cause is what ExcCode and BD make it. -/
theorem State.causeAfter_besides_ce (s : State) (e : Exc) :
    s.causeAfter e &&& ~~~0x30000000#32 = s.causeCoded e &&& ~~~0x30000000#32 := by
  cases h : e.ce with
  | none => rw [State.causeAfter_of_no_ce h]
  | some c =>
    rw [State.causeAfter_of_ce h]
    exact FitsMask.keeps_others (.field c 28 rfl) _

theorem State.causeAfter_code (s : State) (e : Exc) : (s.causeAfter e).extractLsb' 2 5 = e.code := by
  rw [extract_congr_outside (s.causeAfter_besides_ce e) (by rfl)]
  exact extract_replaced _ e.code (by decide) (by rfl)

theorem State.causeAfter_bd (s : State) (e : Exc) :
    (s.causeAfter e).getLsbD 31 = (s.inDelaySlot || (s.exl && s.cp0.cause.getLsbD 31)) :=
  calc (s.causeAfter e).getLsbD 31
    _ = (s.causeCoded e).getLsbD 31 := getLsbD_congr_outside (s.causeAfter_besides_ce e) rfl
    _ = s.causeBd.getLsbD 31 := getLsbD_congr_outside (s.causeCoded_others e) rfl
    _ = _ := s.causeBd_bd

theorem State.causeAfter_ce (s : State) (e : Exc) :
    (s.causeAfter e).extractLsb' 28 2 = e.ce.getD (s.cp0.cause.extractLsb' 28 2) := by
  cases h : e.ce with
  | none =>
    rw [State.causeAfter_of_no_ce h, extract_congr_outside (s.causeCoded_others e) (by rfl)]
    exact extract_congr_outside s.causeBd_others (by rfl)
  | some c =>
    rw [State.causeAfter_of_ce h]
    exact extract_replaced _ c (by decide) (by rfl)

theorem State.causeAfter_others (s : State) (e : Exc) :
    s.causeAfter e &&& ~~~0xB000007C#32 = s.cp0.cause &&& ~~~0xB000007C#32 :=
  calc s.causeAfter e &&& ~~~0xB000007C#32
    _ = s.causeCoded e &&& ~~~0xB000007C#32 := congr_outside_larger (s.causeAfter_besides_ce e) rfl
    _ = s.causeBd &&& ~~~0xB000007C#32 := congr_outside_larger (s.causeCoded_others e) rfl
    _ = _ := congr_outside_larger s.causeBd_others rfl

/-! ### Status after an exception -/

@[simp] theorem State.takeException_exl (s : State) (e : Exc) : (s.takeException e).exl = true := by
  simp [State.exl]

@[simp] theorem State.takeException_mode (s : State) (e : Exc) : (s.takeException e).mode = .kernel :=
  State.mode_of_kernel (.inl (s.takeException_exl e))

/-- The pending interrupts depend on neither ExcCode nor EXL. -/
theorem State.takeException_interruptsPending (s : State) (e : Exc) :
    (s.takeException e).interruptsPending = s.interruptsPending := by
  have hip : (s.takeException e).ip = s.ip := extract_congr_outside (s.causeAfter_others e) (by rfl)
  have him : (s.takeException e).im = s.im := by
    rw [State.im, State.takeException_cp0_status, BitVec.extractLsb'_or]
    exact BitVec.or_zero
  rw [State.interruptsPending, hip, him, State.interruptsPending]

/-! ### The vectors (R503) -/

/-- The vector as a base and an offset (R502 line 4). -/
theorem State.vector_eq (s : State) (e : Exc) : s.vector e =
    (if s.bev then 0xFFFFFFFFBFC00200#64 else 0xFFFFFFFF80000000#64)
      + (if e.isMiss = true ∧ s.exl = false then (if s.addr64 then 0x80#64 else 0#64) else 0x180#64) := by
  have hmiss : (e.isMiss && !s.exl) = true ↔ e.isMiss = true ∧ s.exl = false := by
    rw [Bool.and_eq_true, Bool.not_eq_true']
  exact congrArg (_ + ·) (if_congr hmiss rfl rfl)

/-- The general vector. -/
theorem State.vector_general (h : ¬ (e.isMiss = true ∧ s.exl = false)) :
    s.vector e = if s.bev then 0xFFFFFFFFBFC00380#64 else 0xFFFFFFFF80000180#64 := by
  rw [State.vector_eq, if_neg h]
  cases s.bev <;> rfl

/-- The refill vector. -/
theorem State.vector_refill (h : e.isMiss = true ∧ s.exl = false) : s.vector e =
    if s.bev then (if s.addr64 then 0xFFFFFFFFBFC00280#64 else 0xFFFFFFFFBFC00200#64)
    else (if s.addr64 then 0xFFFFFFFF80000080#64 else 0xFFFFFFFF80000000#64) := by
  rw [State.vector_eq, if_pos h]
  cases s.bev <;> cases s.addr64 <;> rfl

theorem State.vector_mem_vectors (s : State) (e : Exc) : s.vector e ∈ vectors := by
  by_cases h : e.isMiss = true ∧ s.exl = false
  · rw [State.vector_refill h]
    cases s.bev <;> cases s.addr64 <;> decide
  · rw [State.vector_general h]
    cases s.bev <;> decide

/-- The vectors are word addresses of KSEG0 and KSEG1, and of CKSEG0 and CKSEG1 with 64-bit addressing (20_memory R89,
R91): unmapped in kernel mode. -/
theorem vectors_unmapped : ∀ v ∈ vectors, ∀ addr64 : Bool, v.toNat % 4 = 0 ∧
    region .kernel addr64 v = .unmapped (BitVec.ofNat 32 (v.toNat % 2 ^ 29)) := by
  simp only [vectors, List.forall_mem_cons, Bool.forall_bool]
  refine ⟨?_, ?_, ?_, ?_, ?_, ?_, nofun⟩ <;> exact ⟨⟨rfl, rfl⟩, rfl, rfl⟩

/-- A fetch from a vector in kernel mode reaches the bus. -/
theorem State.reaches_vector {v : Dword} (hv : v ∈ vectors) (hm : s.mode = .kernel) :
    ∃ pa, s.reaches v 4 .fetch pa ∧ pa.toNat = v.toNat % 2 ^ 29 := by
  obtain ⟨halign, hregion⟩ := vectors_unmapped v hv s.addr64
  exact ⟨_, ⟨halign, State.translate_of_unmapped .fetch (hm ▸ hregion)⟩, by rw [BitVec.toNat_ofNat]; omega⟩

/-! ### The obligations -/

/-- Settles O13: Cause field by field, Status but for EXL, the vector by its cases. -/
theorem exceptionEntry : Obligations.ExceptionEntry := by
  intro s e t
  obtain ⟨haddr, hops⟩ := State.flags_of_kernel (s.takeException_mode e)
  refine ⟨?codes, s.causeAfter_code e, s.causeAfter_bd e, s.causeAfter_ce e, s.causeAfter_others e, rfl,
    s.takeException_exl e, ?status, s.takeException_mode e, haddr, hops, s.takeException_interruptsPending e, ?vector,
    rfl, rfl, rfl, s.changesOnly_takeException e⟩
  case codes => cases e <;> rfl
  case status => exact or_keeps_others s.cp0.status 0x2#32
  case vector => exact s.vector_eq e

/-- Settles O14: the vector by its cases, and each of the six is unmapped. -/
theorem vectorsAreUnmapped : Obligations.VectorsAreUnmapped := by
  intro s e t miss
  have hgeneral : ¬ miss → t.pc = _ := State.vector_general
  have hrefill : miss → t.pc = _ := State.vector_refill
  exact ⟨fun hb hm => (hgeneral hm).trans (by simp [hb]), fun hb hm ha => (hrefill hm).trans (by simp [hb, ha]),
    fun hb hm ha => (hrefill hm).trans (by simp [hb, ha]), fun hb hm => (hgeneral hm).trans (by simp [hb]),
    fun hb hm ha => (hrefill hm).trans (by simp [hb, ha]), fun hb hm ha => (hrefill hm).trans (by simp [hb, ha]),
    State.reaches_vector (s.vector_mem_vectors e) (s.takeException_mode e)⟩

end Sys2Proof.Machine
end

section
/-!
Proofs/Interrupts: the timer's pending bit and the interrupt a step takes in the place of the instruction
(60_exceptions R505, R506, R526; obligations O7, O9).
-/

namespace Sys2Proof.Machine

variable {s : State}

/-! ### The timer (R526) -/

theorem Cp0.timerTarget_toNat (c : Cp0) : c.timerTarget.toNat = 2 * c.compare.toNat := by
  rw [Cp0.timerTarget, toNat_append_eq, Nat.mul_comm]
  rfl

/-- How far the counter is before the position that reaches Compare. -/
theorem State.timerDistance_toNat (s : State) : (s.cp0.timerTarget - s.cp0.cnt33 - 1#33).toNat =
    (2 * s.cp0.compare.toNat + 2 ^ 33 - s.cp0.cnt33.toNat + (2 ^ 33 - 1)) % 2 ^ 33 := by
  have hcnt := s.cp0.cnt33.isLt
  rw [BitVec.toNat_sub, BitVec.toNat_sub, Cp0.timerTarget_toNat, BitVec.toNat_ofNat]
  omega

/-- The test by the distance finds the match that counting one at a time comes to first. -/
theorem State.timerMatches_iff (s : State) : s.timerMatches = true ↔
    ∃ k, 1 ≤ k ∧ k ≤ s.countInc ∧ (s.cp0.cnt33.toNat + k) % 2 ^ 33 = 2 * s.cp0.compare.toNat := by
  have hcnt := s.cp0.cnt33.isLt
  have hcompare := s.cp0.compare.isLt
  rw [State.timerMatches, decide_eq_true_iff, State.timerDistance_toNat]
  constructor
  · intro h
    exact ⟨_, Nat.le_add_left 1 _, h, by omega⟩
  · rintro ⟨k, hk, hle, hmatch⟩
    omega

theorem State.advanceTimer_cause_timer (s : State) :
    s.advanceTimer.cp0.cause.getLsbD 15 = (s.cp0.cause.getLsbD 15 || s.timerMatches) := by
  change (if s.timerMatches then s.cp0.cause ||| 0x00008000#32 else s.cp0.cause).getLsbD 15 = _
  cases s.timerMatches <;> simp

/-- The input lines leave the timer's bit. -/
theorem State.beginStep_cause_timer (s : State) :
    s.beginStep.cp0.cause.getLsbD 15 = s.advanceTimer.cp0.cause.getLsbD 15 := by
  have hline : (s.sampledLines.setWidth 32 <<< 10).getLsbD 15 = false := by
    rw [BitVec.getLsbD_shiftLeft, BitVec.getLsbD_setWidth, BitVec.getLsbD_of_ge s.sampledLines _ (by decide)]
    rfl
  rw [State.beginStep_cause, BitVec.getLsbD_or, hline, Bool.or_false, BitVec.getLsbD_and, BitVec.getLsbD_not,
    inputMask_getLsbD]
  exact Bool.and_true _

/-- Settles O7: the timer's bit is that of the first line, whose test is counting one at a time. -/
theorem timerSetsPendingBit : Obligations.TimerSetsPendingBit := fun s => by
  rw [State.beginStep_cause_timer, State.advanceTimer_cause_timer, Bool.or_eq_true, State.timerMatches_iff]

/-! ### The interrupt condition (R506) -/

/-- An interrupt is pending when a bit of Cause.IP and the same bit of Status.IM are set. -/
theorem State.interruptsPending_iff (s : State) : s.interruptsPending ≠ 0#8 ↔
    ∃ k, 8 ≤ k ∧ k < 16 ∧ s.cp0.cause.getLsbD k = true ∧ s.cp0.status.getLsbD k = true := by
  have hbit : ∀ k, k < 8 →
      s.interruptsPending.getLsbD k = (s.cp0.cause.getLsbD (8 + k) && s.cp0.status.getLsbD (8 + k)) := fun k hk => by
    simp [State.interruptsPending, State.ip, State.im, hk]
  constructor
  · intro hne
    by_contra hnone
    refine hne (BitVec.eq_of_getLsbD_eq fun k hk => ?_)
    rw [hbit k hk, BitVec.getLsbD_zero, Bool.and_eq_false_iff]
    by_contra hset
    simp only [not_or, Bool.not_eq_false] at hset
    exact hnone ⟨8 + k, by omega, by omega, hset⟩
  · rintro ⟨k, hlow, hhigh, hset⟩ hzero
    have hk := hbit (k - 8) (by omega)
    rw [hzero, BitVec.getLsbD_zero, Nat.add_sub_cancel' hlow, hset.1, hset.2] at hk
    cases hk

theorem State.interruptCondition_iff (s : State) : s.interruptCondition = true ↔
    s.cp0.status.getLsbD 0 = true ∧ s.cp0.status.getLsbD 1 = false ∧ s.cp0.status.getLsbD 2 = false
      ∧ ∃ k, 8 ≤ k ∧ k < 16 ∧ s.cp0.cause.getLsbD k = true ∧ s.cp0.status.getLsbD k = true := by
  rw [← State.interruptsPending_iff, ← bne_iff_ne]
  simp only [State.interruptCondition, State.ie, State.exl, State.erl, Bool.and_eq_true, Bool.not_eq_true', and_assoc]

/-! ### The entry (R502, R503, R506) -/

/-- A step that takes an interrupt runs no instruction. -/
theorem step_of_interrupt (hm : s.mode ≠ .undefined) (hi : s.beginStep.interruptCondition = true) :
    step s = .next (s.beginStep.takeException .int) := by
  unfold step
  rw [if_neg hm, if_pos hi]
  rfl

/-- Taken with EXL clear, an exception records the instruction, or the branch before it, and BD says which. -/
theorem State.takeException_returns (h : s.exl = false) (e : Exc) :
    (s.takeException e).cp0.epc = (if s.inDelaySlot then s.prevPc - 4#64 else s.prevPc)
    ∧ (s.takeException e).cp0.cause.getLsbD 31 = s.inDelaySlot := by
  rw [State.takeException_cp0_epc, State.takeException_cp0_cause, State.causeAfter_bd, h]
  exact ⟨rfl, Bool.or_false _⟩

/-- Settles O9: the condition bit by bit; EXL is clear when it holds, so that EPC is recorded. -/
theorem interruptTakenFirst : Obligations.InterruptTakenFirst := by
  intro s hm u
  refine ⟨u.interruptCondition_iff, fun hi => ?_⟩
  obtain ⟨-, hexl, -⟩ := u.interruptCondition_iff.1 hi
  obtain ⟨hepc, hbd⟩ := State.takeException_returns (s := u) hexl .int
  exact ⟨_, step_of_interrupt hm hi, hepc, hbd, u.causeAfter_code .int, State.vector_general nofun, rfl,
    u.takeException_exl .int,
    State.changesOnly_mono (u.changesOnly_takeException .int) fun _ => or_left_comm.1⟩

end Sys2Proof.Machine
end

section
/-!
Proofs/PreciseExceptions: an exception leaves what came before it (60_exceptions R502, R504; obligations O17, O18) and
confines user mode (R525; obligation O21). A step either enters an exception, from a state that differs by the failing
address, FCR31 and the platform's record alone, or completes its instruction; completing does not set EXL, and outside
coprocessor 0 it writes no CP0 register but LLAddr.
-/

namespace Sys2Proof.Machine

open Relation (ReflTransGen)

variable {i : Instr} {s t u : State} {pa : Word}

/-! ### What completing an instruction leaves of coprocessor 0 -/

/-- A completing instruction does not set EXL, but by a write of Status (45_cp0 R375). -/
theorem Update.exl_of_clear (h : Update i s t) (hi : ∀ rt rd, i ≠ .mtc0 rt rd ∧ i ≠ .dmtc0 rt rd) (hs : s.exl = false) :
    t.exl = false := by
  cases h with
  | gpr | branchLikely | busRead | busWrite => simpa [State.exl] using hs
  | hiLo | branch | reserve | fpr | fpSignals | fpCompare | fpControl | tlbRead | tlbWrite | tlbProbe => exact hs
  | cp0Write n v hw =>
    obtain ⟨r, rfl | rfl⟩ := hw
    · exact absurd rfl (hi r n).1
    · exact absurd rfl (hi r n).2
  | eret =>
    change (if s.erl then s.cp0.status &&& ~~~0x4#32 else s.cp0.status &&& ~~~0x2#32).getLsbD 1 = false
    split
    · rw [BitVec.getLsbD_and, show s.cp0.status.getLsbD 1 = false from hs, Bool.false_and]
    · rw [BitVec.getLsbD_and]
      exact Bool.and_false _

theorem exl_of_updates (h : ReflTransGen (Update i) s t) (hi : ∀ rt rd, i ≠ .mtc0 rt rd ∧ i ≠ .dmtc0 rt rd)
    (hs : s.exl = false) : t.exl = false := by
  induction h with
  | refl => exact hs
  | tail _ h ih => exact h.exl_of_clear hi ih

/-- Outside coprocessor 0 no update writes a CP0 register but LLAddr (43_load_store R310). -/
theorem Update.cp0_agree (h : Update i s t) (hi : i.needsCop0 = false) {q : Cp0Reg} (hq : q ≠ .llAddr) :
    s.cp0.agree t.cp0 q := by
  have hkeep : t.cp0 = s.cp0 → s.cp0.agree t.cp0 q := fun hcp0 => hcp0 ▸ s.cp0.agree_refl q
  cases h with
  | gpr | branchLikely | busRead | busWrite => exact hkeep (by simp)
  | hiLo | branch | fpr | fpSignals | fpCompare | fpControl | tlbWrite => exact hkeep rfl
  | reserve => cases q with
    | llAddr => exact absurd rfl hq
    | _ => rfl
  | cp0Write n v hw => obtain ⟨r, rfl | rfl⟩ := hw <;> cases hi
  | tlbRead e hw | tlbProbe hw | eret hw =>
    subst hw
    cases hi

theorem cp0_agree_of_updates (h : ReflTransGen (Update i) s t) (hi : i.needsCop0 = false) {q : Cp0Reg}
    (hq : q ≠ .llAddr) : s.cp0.agree t.cp0 q := by
  induction h with
  | refl => exact s.cp0.agree_refl q
  | tail _ h ih => exact Cp0.agree_trans ih (h.cp0_agree hi hq)

/-- Settles O17: what raises an exception has written the registers of the failing address or FCR31, and what completes
leaves EXL clear. -/
theorem exceptionsArePrecise : Obligations.ExceptionsArePrecise := by
  intro i s t h hs ht hi
  cases exec_answer h with
  | raised hu e =>
    refine State.changesOnly_trans (State.changesOnly_mono hu.changesOnly ?_)
      (State.changesOnly_mono (State.changesOnly_takeException _ e) ?_)
    · unfold raiseWrites
      tauto
    · tauto
  | completed hu => simp [exl_of_updates hu hi hs] at ht

/-! ### What a step answers -/

/-- What a step may have written, after lines 1 to 4, when it takes an exception: what its instruction may have, and the
platform's record of the fetch (20_memory R86). -/
def stepRaiseWrites : Part → Prop := fun p => raiseWrites p ∨ p = .busTrace

theorem State.changesOnly_afterFetch (s : State) (pa : Word) : s.changesOnly (s.afterRead pa 4) stepRaiseWrites :=
  s.changesOnly_afterRead pa 4 fun _ => .inr rfl

/-- A step enters an exception, or completes the instruction it decodes. -/
theorem step_entered_or_completed (h : step s = .next t) :
    (∃ u e, t = u.takeException e ∧ s.beginStep.changesOnly u stepRaiseWrites)
      ∨ ∃ pa i, s.reaches s.pc 4 .fetch pa ∧ decode (s.beginStep.bus32 pa) = .ok i
          ∧ exec i (s.beginStep.afterRead pa 4) = .next t ∧ ReflTransGen (Update i) (s.beginStep.afterRead pa 4) t := by
  obtain ⟨-, rfl⟩ | ⟨e, rfl⟩ | ⟨pa, hpa, ⟨-, rfl⟩ | ⟨i, hdecode, hexec⟩⟩ := step_next h
  case inl => exact .inl ⟨_, _, rfl, State.changesOnly_refl _ _⟩
  case inr.inl =>
    exact .inl ⟨_, e, rfl, State.changesOnly_mono (State.changesOnly_recordFaultAddress_raise _ _) fun _ => .inl⟩
  case inr.inr.inl => exact .inl ⟨_, _, rfl, State.changesOnly_afterFetch _ pa⟩
  case inr.inr.inr =>
    cases exec_answer hexec with
    | completed hu => exact .inr ⟨pa, i, hpa, hdecode, hexec, hu⟩
    | raised hu e =>
      exact .inl ⟨_, e, rfl, State.changesOnly_trans (State.changesOnly_afterFetch _ pa)
        (State.changesOnly_mono hu.changesOnly fun _ => .inl)⟩

/-- Settles O18: neither the pc of the instruction nor its place in a delay slot has changed when the exception is
taken. -/
theorem delaySlotFaultReturnsToBranch : Obligations.DelaySlotFaultReturnsToBranch := by
  intro s t h hs ht hword
  obtain ⟨u, e, rfl, hu⟩ | ⟨pa, i, hpa, hdecode, -, hupdates⟩ := step_entered_or_completed h
  · have hstatus : u.cp0.status = s.cp0.status := hu (.cp0 .status) (by simp [stepRaiseWrites, raiseWrites])
    have hpc : u.prevPc = s.pc := hu .prevPc (by simp [stepRaiseWrites, raiseWrites])
    have hslot : u.inDelaySlot = s.branchPending := hu .inDelaySlot (by simp [stepRaiseWrites, raiseWrites])
    have hexl : u.exl = false := by rwa [State.exl, hstatus]
    rw [← hpc, ← hslot]
    exact State.takeException_returns hexl e
  · have hi : ∀ rt rd, i ≠ .mtc0 rt rd ∧ i ≠ .dmtc0 rt rd := fun rt rd => by
      obtain ⟨hmtc0, hdmtc0⟩ := hword pa rt rd hpa.2
      rw [hdecode] at hmtc0 hdmtc0
      exact ⟨fun hi => hmtc0 (hi ▸ rfl), fun hi => hdmtc0 (hi ▸ rfl)⟩
    simp [exl_of_updates hupdates hi (by simpa [State.exl] using hs)] at ht

/-! ### User mode (R525) -/

/-- Where coprocessor 0 may not be used, its instructions raise CpU(0) (30_encoding R161). -/
theorem exec_of_cop0_unusable (hk : s.kernelMode = false) (h0 : s.cu0 = false) (hi : i.needsCop0 = true) :
    exec i s = .next (s.takeException (.cpu 0#2)) := by
  obtain ⟨k, hexec⟩ := exec_eq_checkCop0 s hi
  exact hexec.trans (State.checkCop0_not hk h0 k)

/-- A frame without TLB entries keeps the TLB. -/
theorem State.tlb_of_changesOnly {w : Part → Prop} (h : s.changesOnly t w) (hw : ∀ j, ¬ w (.tlb j)) : t.tlb = s.tlb :=
  Vector.ext fun j hj => h (.tlb ⟨j, hj⟩) (hw _)

/-- The entry of an exception goes to kernel mode (R503). -/
theorem State.takeException_entersKernel (h : u.tlb = s.tlb) (e : Exc) : (u.takeException e).mode = .kernel
    ∧ (u.takeException e).exl = true ∧ (u.takeException e).pc ∈ vectors ∧ (u.takeException e).tlb = s.tlb :=
  ⟨u.takeException_mode e, u.takeException_exl e, u.vector_mem_vectors e, h⟩

/-- Lines 1 to 4 and the fetch keep the CP0 registers but their own. -/
theorem State.beginStep_cp0_agree (s : State) {q : Cp0Reg} (hcount : q ≠ .count) (hrandom : q ≠ .random)
    (hcause : q ≠ .cause) : s.cp0.agree s.beginStep.cp0 q :=
  s.changesOnly_beginStep (.cp0 q) (by simp [hcount, hrandom, hcause])

/-- Settles O21: an instruction of coprocessor 0 raises CpU(0); every other one enters an exception or keeps the TLB and
every CP0 register but LLAddr, Status with them. -/
theorem userModeIsConfined : Obligations.UserModeIsConfined := by
  intro s t hmode hcu0 h
  obtain ⟨u, e, rfl, hu⟩ | ⟨pa, i, -, -, hexec, hupdates⟩ := step_entered_or_completed h
  · exact .inl (State.takeException_entersKernel
      (State.tlb_of_changesOnly hu fun j => by simp [stepRaiseWrites, raiseWrites]) e)
  · have hstatus : (s.beginStep.afterRead pa 4).cp0.status = s.cp0.status := by simp
    have htlb : (s.beginStep.afterRead pa 4).tlb = s.tlb := by simp
    cases hi : i.needsCop0 with
    | true =>
      have hk : (s.beginStep.afterRead pa 4).kernelMode = false := by
        rw [State.kernelMode, State.mode_congr hstatus, hmode]
        rfl
      obtain rfl : _ = t := by simpa [exec_of_cop0_unusable hk (by rwa [State.cu0, hstatus]) hi] using hexec
      exact .inl (State.takeException_entersKernel htlb _)
    | false =>
      have hagree : ∀ q, q ≠ .count → q ≠ .random → q ≠ .cause → q ≠ .llAddr → s.cp0.agree t.cp0 q :=
        fun q hcount hrandom hcause hll => Cp0.agree_trans (s.beginStep_cp0_agree hcount hrandom hcause)
          (by simpa using cp0_agree_of_updates hupdates hi hll)
      have htlbw : ¬ (i = .tlbwi ∨ i = .tlbwr) := by
        rintro (rfl | rfl) <;> cases hi
      have hst : t.cp0.status = s.cp0.status := hagree .status nofun nofun nofun nofun
      exact .inr ⟨(State.mode_congr hst).trans hmode, ((exec_answer hexec).leavesOthers.tlb htlbw).trans htlb, hagree⟩

end Sys2Proof.Machine
end

section
/-!
Proofs/PcFlow: where the next instruction comes from (70_reset_and_hazards R562; obligation O22), with the words the
spec's rules write out (30_encoding; obligation O4) and the invariant after reset (10_state R59; obligation O11). Only
the likely branches and ERET move the pc that line 4 of the step has set, and a likely branch moves it past its delay
slot alone.
-/

namespace Sys2Proof.Machine

variable {i : Instr} {s t u : State} {v w : Part → Prop} {p : Prop} {r : Reg} {a : Dword} {c : Bool}

/-! ### Which instructions move the pc -/

/-- The branches that skip their delay slot when they are not taken (42_branch_jump R251, 46_fpu_move R410, R411). -/
def IsLikely (i : Instr) : Prop :=
  (∃ a b o, i = .beql a b o ∨ i = .bnel a b o)
    ∨ (∃ a o, i = .blezl a o ∨ i = .bgtzl a o ∨ i = .bltzl a o ∨ i = .bgezl a o ∨ i = .bltzall a o ∨ i = .bgezall a o)
    ∨ ∃ o, i = .bc1fl o ∨ i = .bc1tl o

/-- The frame of an instruction as far as the pc is concerned: every other piece may change, the pc where a likely
branch or ERET moves it. -/
abbrev pcFrame (i : Instr) : Part → Prop := fun p => p = .pc → IsLikely i ∨ i = .eret

theorem Framed.mono {res : Result} (h : Framed s v res) (hv : ∀ p, v p → w p) : Framed s w res :=
  fun t ht => (h t ht).imp_right fun hc => State.changesOnly_mono hc hv

/-- A bus write moves no pc. -/
theorem State.changesOnly_busWrite_pcFrame (s : State) (pa : Word) (n : Nat) (x : Dword) (m : Memory) :
    s.changesOnly (s.busWrite pa n x m) (pcFrame i) :=
  s.changesOnly_busWrite pa n x m (fun _ _ h => absurd nofun h) fun _ => nofun

/-- A partial store, which reads its container first, moves no pc. -/
theorem Framed.readBusWrite {pa : Word} {n k : Nat} {x : Dword} {m : Memory} :
    Framed s (pcFrame i) (.next ((s.afterRead pa k).busWrite pa n x m)) :=
  .next (State.changesOnly_trans (s.changesOnly_afterRead pa k fun _ => nofun)
    (State.changesOnly_busWrite_pcFrame _ pa n x m))

theorem Framed.storeConditional_pcFrame {va : Dword} {n : Nat} {written : Word → State}
    (h : ∀ pa, s.changesOnly (written pa) (pcFrame i)) : Framed s (pcFrame i) (s.storeConditional va n r written) := by
  intro t ht
  obtain ⟨-, pa, -, rfl⟩ | ⟨-, rfl⟩ | ⟨e, rfl⟩ := State.storeConditional_next ht
  · exact .inr (State.changesOnly_trans (h pa) (State.changesOnly_setX _ r _ nofun))
  · exact .inr (s.changesOnly_setX r _ nofun)
  · exact .inl (s.entersFrom_raiseAt va e)

/-- Every instruction enters an exception, or moves no pc unless it is a likely branch or ERET. -/
theorem exec_pcFrame (i : Instr) (s : State) : Framed s (pcFrame i) (exec i s) := by
  cases i with
  | nop | sync | cache => exact .next (s.changesOnly_refl _)
  | add | sub | addi => exact .checked nofun
  | dadd | dsub | daddi => exact .check64 fun _ => .checked nofun
  | addu | subu | and | or | xor | nor | slt | sltu | addiu | slti | sltiu | andi | ori | xori | lui | sll | srl | sra
  | sllv | srlv | srav | mfhi | mflo => exact .setX nofun
  | daddu | dsubu | daddiu | dsll | dsrl | dsra | dsllv | dsrlv | dsrav | dsll32 | dsrl32 | dsra32 =>
    exact .check64 fun _ => .setX nofun
  | mult | multu | div | divu | mthi | mtlo => exact .next (s.changesOnly_setHiLo _ _ nofun nofun)
  | dmult | dmultu | ddiv | ddivu => exact .check64 fun _ => .next (s.changesOnly_setHiLo _ _ nofun nofun)
  | j | jr | beq | bne | blez | bgtz | bltz | bgez => exact .branch nofun nofun
  | bc1f | bc1t => exact .checkCop1 (.branch nofun nofun)
  | jal | jalr | bltzal | bgezal => exact .linkBranch nofun nofun nofun
  | beql | bnel | blezl | bgtzl | bltzl | bgezl =>
    exact .branchLikely nofun nofun fun _ => .inl (by simp [IsLikely])
  | bc1fl | bc1tl => exact .checkCop1 (.branchLikely nofun nofun fun _ => .inl (by simp [IsLikely]))
  | bltzall | bgezall => exact .linkBranchLikely nofun nofun (fun _ => .inl (by simp [IsLikely])) nofun
  | lb | lbu | lh | lhu | lw => exact .load fun _ _ => .readSetX nofun fun _ => nofun
  | ld | lwu => exact .check64 fun _ => .load fun _ _ => .readSetX nofun fun _ => nofun
  | lwl | lwr => exact .translated fun _ _ => .readSetX nofun fun _ => nofun
  | ldl | ldr => exact .check64 fun _ => .translated fun _ _ => .readSetX nofun fun _ => nofun
  | ll => exact .load fun _ _ => .readReserve nofun nofun nofun fun _ => nofun
  | lld => exact .check64 fun _ => .load fun _ _ => .readReserve nofun nofun nofun fun _ => nofun
  | lwc1 | ldc1 => exact .checkCop1 (.load fun _ _ => .readSetFpr nofun fun _ => nofun)
  | sb | sh | sw => exact .store fun _ _ => .next (s.changesOnly_busWrite_pcFrame _ _ _ _)
  | sd => exact .check64 fun _ => .store fun _ _ => .next (s.changesOnly_busWrite_pcFrame _ _ _ _)
  | swc1 | sdc1 => exact .checkCop1 (.store fun _ _ => .next (s.changesOnly_busWrite_pcFrame _ _ _ _))
  | swl | swr => exact .translated fun _ _ => .readBusWrite
  | sdl | sdr => exact .check64 fun _ => .translated fun _ _ => .readBusWrite
  | sc => exact .storeConditional_pcFrame fun _ => s.changesOnly_busWrite_pcFrame _ _ _ _
  | scd => exact .check64 fun _ => .storeConditional_pcFrame fun _ => s.changesOnly_busWrite_pcFrame _ _ _ _
  | syscall | break_ => exact .raise (s.changesOnly_refl _) _
  | tge | tgeu | tlt | tltu | teq | tne | tgei | tgeiu | tlti | tltiu | teqi | tnei => exact .trapIf
  | cop2 => exact .checkCop2 (.refused _)
  | mfc0 => exact .checkCop0 (.setX nofun)
  | dmfc0 => exact .checkCop0 (.check64 fun _ => .setX nofun)
  | mtc0 => exact .checkCop0 (.next (s.changesOnly_setCp0 _ fun _ h => absurd nofun h))
  | dmtc0 => exact .checkCop0 (.check64 fun _ => .next (s.changesOnly_setCp0 _ fun _ h => absurd nofun h))
  | tlbr => exact .checkCop0 (.withTlbIndex fun _ _ => .next (s.changesOnly_setCp0 _ fun _ h => absurd nofun h))
  | tlbwi => exact .checkCop0 (.withTlbIndex fun j _ => .next (s.changesOnly_setTlb j _ nofun))
  | tlbwr => exact Framed.tlbwr.mono (by rintro _ ⟨j, -, rfl⟩; exact nofun)
  | tlbp => exact .checkCop0 (.next (s.changesOnly_setCp0 _ fun _ h => absurd nofun h))
  | eret => exact .checkCop0 (.next (State.changesOnly_mono s.changesOnly_returnFromException fun _ _ _ => .inr rfl))
  | mfc1 => exact .checkCop1 (.setX nofun)
  | dmfc1 => exact .checkCop1 (.check64 fun _ => .setX nofun)
  | mtc1 => exact .checkCop1 (.next (s.changesOnly_setFpr _ _ nofun))
  | dmtc1 => exact .checkCop1 (.check64 fun _ => .next (s.changesOnly_setFpr _ _ nofun))
  | cfc1 => exact Framed.cfc1.mono (by rintro _ rfl; exact nofun)
  | ctc1 => exact Framed.ctc1.mono (by rintro _ rfl; exact nofun)
  | movS | movD => exact .checkCop1 (.next (s.changesOnly_setFpr _ _ nofun))
  | addS | addD | subS | subD | mulS | mulD | divS | divD | sqrtS | sqrtD | absS | absD | negS | negD | cvtSD | cvtSW
  | cvtSL | cvtDS | cvtDW | cvtDL => exact .fpOp nofun nofun
  | roundLS | roundLD | truncLS | truncLD | ceilLS | ceilLD | floorLS | floorLD | roundWS | roundWD | truncWS | truncWD
  | ceilWS | ceilWD | floorWS | floorWD | cvtWS | cvtWD | cvtLS | cvtLD => exact .fxOp nofun nofun
  | cFS | cFD | cUnS | cUnD | cEqS | cEqD | cUeqS | cUeqD | cOltS | cOltD | cUltS | cUltD | cOleS | cOleD | cUleS | cUleD
  | cSfS | cSfD | cNgleS | cNgleD | cSeqS | cSeqD | cNglS | cNglD | cLtS | cLtD | cNgeS | cNgeD | cLeS | cLeD | cNgtS
  | cNgtD => exact Framed.fpCompare.mono (by rintro _ rfl; exact nofun)

/-! ### Where the likely branches and ERET move it (R251, R380) -/

/-- Whatever next state a result gives is the entry of an exception, or that of a likely branch: its delay slot is next,
or is skipped. -/
def LikelyAnswers (s : State) (res : Result) : Prop :=
  ∀ t, res = .next t → s.entersFrom t ∨ ∃ p a, SlotSkippedUnless s p a t

theorem LikelyAnswers.branchLikely : LikelyAnswers s (.next (s.branchLikely c a)) := by
  rintro t ⟨⟩
  exact .inr ⟨_, a, slotSkippedUnless_branchLikely s a Iff.rfl⟩

theorem LikelyAnswers.linkBranchLikely {x : Dword} : LikelyAnswers s (.next ((s.setX r x).branchLikely c a)) := by
  rintro t ⟨⟩
  exact .inr ⟨_, a, (slotSkippedUnless_branchLikely _ a Iff.rfl).of_setX⟩

theorem LikelyAnswers.checkCop1 {k : Result} (h : LikelyAnswers s k) : LikelyAnswers s (s.checkCop1 k) := by
  intro t ht
  obtain ⟨-, ht⟩ | rfl := State.checkCop1_next ht
  · exact h t ht
  · exact .inl (s.entersFrom_raise _)

theorem exec_likelyAnswers (hi : IsLikely i) (s : State) : LikelyAnswers s (exec i s) := by
  obtain ⟨a, b, o, rfl | rfl⟩ | ⟨a, o, rfl | rfl | rfl | rfl | rfl | rfl⟩ | ⟨o, rfl | rfl⟩ := hi
  · exact .branchLikely
  · exact .branchLikely
  · exact .branchLikely
  · exact .branchLikely
  · exact .branchLikely
  · exact .branchLikely
  · exact .linkBranchLikely
  · exact .linkBranchLikely
  · exact .checkCop1 .branchLikely
  · exact .checkCop1 .branchLikely

/-! ### The rule of the pc (70_reset_and_hazards R562) -/

/-- Every instruction enters an exception or keeps the pc, but for a likely branch that skips its delay slot and ERET. -/
theorem exec_pc (h : exec i s = .next t) : s.entersFrom t ∨ t.pc = s.pc
    ∨ (t.pc = s.nextPc ∧ t.nextPc = s.nextPc + 4#64 ∧ t.branchPending = s.branchPending) ∧ IsLikely i
    ∨ i = .eret ∧ t.pc = if s.erl then s.cp0.errorEpc else s.cp0.epc := by
  by_cases hlikely : IsLikely i
  · obtain henters | ⟨p, a, htaken, hskipped⟩ := exec_likelyAnswers hlikely s t h
    · exact .inl henters
    · by_cases hp : p
      · exact .inr (.inl (htaken hp).1)
      · exact .inr (.inr (.inl ⟨hskipped hp, hlikely⟩))
  by_cases heret : i = .eret
  · subst heret
    obtain ⟨-, ⟨⟩⟩ | rfl := State.checkCop0_next h
    · exact .inr (.inr (.inr ⟨rfl, rfl⟩))
    · exact .inl (s.entersFrom_raise _)
  · obtain henters | hframe := exec_pcFrame i s t h
    · exact .inl henters
    · exact .inr (.inl (hframe .pc fun hmoves => (hmoves rfl).elim hlikely heret))

/-- An exception goes to one of the six vectors, with EXL set (60_exceptions R502, R503). -/
theorem State.takeException_at_vector (u : State) (e : Exc) :
    (u.takeException e).exl = true ∧ (u.takeException e).pc ∈ vectors :=
  ⟨u.takeException_exl e, u.vector_mem_vectors e⟩

/-- Settles O22: line 4 of the step moves the pc to `next_pc`, and the instruction after it moves the pc only as
`exec_pc` says. -/
theorem pcRedirectsAfterOneInstruction : Obligations.PcRedirectsAfterOneInstruction := by
  intro s t h
  obtain ⟨-, rfl⟩ | ⟨e, rfl⟩ | ⟨pa, hpa, ⟨-, rfl⟩ | ⟨i, hdecode, hexec⟩⟩ := step_next h
  · exact .inr (.inl (State.takeException_at_vector _ _))
  · exact .inr (.inl (State.takeException_at_vector _ e))
  · exact .inr (.inl (State.takeException_at_vector _ _))
  · obtain ⟨u, e, rfl, -⟩ | hkept | ⟨⟨hpc, hnext, hpending⟩, hlikely⟩ | ⟨heret, hpc⟩ := exec_pc hexec
    · exact .inr (.inl (State.takeException_at_vector u e))
    · exact .inl (by simpa using hkept)
    · have hpc : t.pc = s.nextPc + 4#64 := by simpa using hpc
      have hnext : t.nextPc = s.nextPc + 4#64 + 4#64 := by simpa using hnext
      have hpending : t.branchPending = false := by simpa using hpending
      exact .inr (.inr ⟨pa, i, hpa, hdecode, .inl ⟨hpc, hnext.trans (BitVec.add_assoc ..), hpending, hlikely⟩⟩)
    · rw [State.erl, State.afterRead_cp0] at hpc
      exact .inr (.inr ⟨pa, i, hpa, hdecode, .inr ⟨heret, hpc⟩⟩)

/-! ### The state after reset (10_state R59) -/

theorem TlbEntry.atReset_legal : TlbEntry.atReset.legal = true := rfl

theorem Cp0.atReset_legal : Cp0.atReset.Legal := Cp0.legal_iff _ |>.1 (by decide)

/-- Settles O11, part by part: the TLB entry by entry. -/
theorem resetLegal : Obligations.ResetLegal :=
  State.legal_iff _ |>.2
    { cp0 := Cp0.atReset_legal
      tlb := fun j hj => (State.reset_tlb ⟨j, hj⟩).symm ▸ TlbEntry.atReset_legal
      mem := rfl
      fcr0 := rfl
      fcr31 := rfl }

/-! ### The words written out in the spec (30_encoding) -/

/-- Settles O4: each word is the encoder's word of its instruction, which the decoder takes back to it (O1). -/
theorem specWordsDecode : Obligations.SpecWordsDecode := by
  intro p hp
  have hencoded : encode p.2 = p.1 ∧ p.2.wellFormed = true := by
    revert p
    decide
  rw [← hencoded.1]
  exact decodeEncodeRoundTrip p.2 hencoded.2

end Sys2Proof.Machine
end
